-- ==== Sys2Proof/Word.lean ====
section
/-! DEFINITION. The words of the ES820, its bank and channel names, and one item held for each of them. -/

namespace Sys2Proof

/-- A register or table byte (R185). -/
abbrev Byte := BitVec 8

/-- The 16 data bits of a store word: low byte in bits 7..0, high byte in bits 15..8 (R10). -/
abbrev Data := BitVec 16

/-- A row number, 0..1023 (R1). -/
abbrev Row := BitVec 10

/-- A column number, 0..255 (R1). -/
abbrev Col := BitVec 8

/-- The four banks (R1). -/
inductive Bank where
  | b0 | b1 | b2 | b3
  deriving DecidableEq, Repr

/-- The number of a bank: Bn is bank n. -/
def Bank.num : Bank → Nat
  | .b0 => 0
  | .b1 => 1
  | .b2 => 2
  | .b3 => 3

/-- The banks in ascending order. -/
def Bank.all : List Bank := [.b0, .b1, .b2, .b3]

/-- The bank that a number names: 0..3 name B0..B3, other numbers name no bank (R188). -/
def Bank.ofNat? : Nat → Option Bank
  | 0 => some .b0
  | 1 => some .b1
  | 2 => some .b2
  | 3 => some .b3
  | _ => none

/-- The bank that a two-bit field names; every value names one (R192). -/
def Bank.ofBits (v : BitVec 2) : Bank :=
  match v.toNat with
  | 0 => .b0
  | 1 => .b1
  | 2 => .b2
  | _ => .b3

/-- The three stream channels SC0, SC1 and SC2 (R114). -/
inductive Chan where
  | c0 | c1 | c2
  deriving DecidableEq, Repr

/-- The number of a channel. -/
def Chan.num : Chan → Nat
  | .c0 => 0
  | .c1 => 1
  | .c2 => 2

/-- The channels in ascending order. -/
def Chan.all : List Chan := [.c0, .c1, .c2]

/-- The channel that a number names: 0, 1 and 2 name SC0..SC2, other numbers name none (R188). -/
def Chan.ofNat? : Nat → Option Chan
  | 0 => some .c0
  | 1 => some .c1
  | 2 => some .c2
  | _ => none

/-- The number after a channel's, with 2 + 1 counted as 0 (R146). -/
def Chan.next : Chan → Chan
  | .c0 => .c1
  | .c1 => .c2
  | .c2 => .c0

/-- One item for each bank. -/
structure PerBank (α : Type) where
  b0 : α
  b1 : α
  b2 : α
  b3 : α
  deriving DecidableEq, Repr

/-- The item of bank `b`. -/
def PerBank.get {α : Type} (p : PerBank α) : Bank → α
  | .b0 => p.b0
  | .b1 => p.b1
  | .b2 => p.b2
  | .b3 => p.b3

/-- `p` with the item of one bank replaced. -/
def PerBank.set {α : Type} (p : PerBank α) (b : Bank) (x : α) : PerBank α :=
  match b with
  | .b0 => { p with b0 := x }
  | .b1 => { p with b1 := x }
  | .b2 => { p with b2 := x }
  | .b3 => { p with b3 := x }

/-- The same item for every bank. -/
def PerBank.same {α : Type} (x : α) : PerBank α := ⟨x, x, x, x⟩

/-- Every item changed by `f`, which is told the bank. -/
def PerBank.map {α β : Type} (f : Bank → α → β) (p : PerBank α) : PerBank β :=
  ⟨f .b0 p.b0, f .b1 p.b1, f .b2 p.b2, f .b3 p.b3⟩

/-- One item for each channel. -/
structure PerChan (α : Type) where
  c0 : α
  c1 : α
  c2 : α
  deriving DecidableEq, Repr

/-- The item of channel `c`. -/
def PerChan.get {α : Type} (p : PerChan α) : Chan → α
  | .c0 => p.c0
  | .c1 => p.c1
  | .c2 => p.c2

/-- `p` with the item of one channel replaced. -/
def PerChan.set {α : Type} (p : PerChan α) (c : Chan) (x : α) : PerChan α :=
  match c with
  | .c0 => { p with c0 := x }
  | .c1 => { p with c1 := x }
  | .c2 => { p with c2 := x }

/-- The same item for every channel. -/
def PerChan.same {α : Type} (x : α) : PerChan α := ⟨x, x, x⟩

/-- Every item changed by `f`, which is told the channel. -/
def PerChan.map {α β : Type} (f : Chan → α → β) (p : PerChan α) : PerChan β :=
  ⟨f .c0 p.c0, f .c1 p.c1, f .c2 p.c2⟩

end Sys2Proof
end

