-- ==== Sys2Proof/Syntax.lean ====
section
/-! DEFINITION. The steps of the ES820: one constructor for each row of spec/opcode_table.json.
The table gives no operands; a command's arguments stand in the registers (R187), and the operands below are what a
step needs beside them: the byte of a write cycle, the bank or channel an event is of, the level on an input bus, and
the order in which happenings that are one step are taken where the spec leaves it open. -/

namespace Sys2Proof

/-- The three event registers EV0, EV1 and EV2 (R163). -/
inductive EventReg where
  | ev0 | ev1 | ev2
  deriving DecidableEq, Repr

/-- The two resets of R183. -/
inductive ResetKind where
  | pin | powerOn
  deriving DecidableEq, Repr

/-- A host bus cycle: a write cycle with its byte, or a read cycle (R185). -/
inductive BusCycle where
  | write (addr : BitVec 5) (v : Byte)
  | read (addr : BitVec 5)
  deriving DecidableEq, Repr

/-- The host bus as the host drives it at one moment: whether CS#, RD# and WR# are asserted, A[4:0], and the byte on D[7:0]
(R185). -/
structure BusPins where
  cs : Bool
  rd : Bool
  wr : Bool
  addr : BitVec 5
  data : Byte
  deriving DecidableEq, Repr

/-- An order of the three channels: the one in which the period ticks that are part of one refresh tick are taken
(R74: "settled in the same way, by whichever is taken first"; R120). -/
inductive ChanOrder where
  | o012 | o021 | o102 | o120 | o201 | o210
  deriving DecidableEq, Repr, Inhabited

/-- The channels in the order named. -/
def ChanOrder.toList : ChanOrder → List Chan
  | .o012 => [.c0, .c1, .c2]
  | .o021 => [.c0, .c2, .c1]
  | .o102 => [.c1, .c0, .c2]
  | .o120 => [.c1, .c2, .c0]
  | .o201 => [.c2, .c0, .c1]
  | .o210 => [.c2, .c1, .c0]

/-- Who brings the tick of a counter: the counter itself, counted by the autonomous clock, or the sender, who may bring it whatever
the counter shows (entries 2 and 4). -/
inductive TickOrigin where
  | counter | sender
  deriving DecidableEq, Repr

/-- A refresh tick: the order in which the channels take its source event, and who brings it (entries 2 and 6). -/
structure RefreshTick where
  order : ChanOrder
  origin : TickOrigin
  deriving DecidableEq, Repr

/-- A period tick: the channel it is of, and who brings it (entry 2). -/
structure PeriodTick where
  chan : Chan
  origin : TickOrigin
  deriving DecidableEq, Repr

/-- The rows of the table. -/
inductive Instr where
  -- commands: a CMD write with the row's code (R187, R188)
  | bringup
  | hold
  | wake
  | trafficReset
  | hostRead
  | hostWrite
  | hostWriteByte
  | hostCancel
  | chStart
  | chStop
  | chAbort
  | weakAdd
  | weakRemove
  | weakClear
  | bankPause
  | bankResume
  | clearLost
  | faultPop
  | unknownCommand (code : Byte)
  -- other host bus cycles (R185, R186)
  | datalRead
  | datahRead
  | datalWrite (v : Byte)
  | datahWrite (v : Byte)
  | tdataRead
  | tdataWrite (v : Byte)
  | tselWrite (v : Byte)
  | eventRegisterWrite (reg : EventReg) (v : Byte)
  | fltlostWrite (v : Byte)
  | causeWrite (v : Byte)
  | registerWrite (addr : BitVec 5) (v : Byte)
  -- resets and pins
  | pinReset
  | powerOnReset
  | resetEnd (last : ResetKind)
  | hwakeFallingEdge
  | lreqAsserted (c : Chan)
  | lreqWithdrawn (c : Chan)
  | lsyncRisingEdge (c : Chan)
  -- counters reaching their ends
  | tick (t : RefreshTick)
  | warmupStart
  | wakeSettleEnd
  | periodTick (t : PeriodTick)
  | openLimitExpiry (b : Bank)
  -- ends of store operations
  | activationEnd (b : Bank)
  | prechargeEnd (b : Bank)
  | regularRefreshEnd (b : Bank)
  | spotRefreshEnd (b : Bank)
  | warmupRefreshEnd (b : Bank)
  | wordTransferEnd
  | rmwWordEnd
  -- arbiters and the lane
  | dataPathGrant
  | laneGrant
  | fetchStrobeEnd
  | depositStrobeEnd (ld : Data)
  deriving DecidableEq, Repr

end Sys2Proof
end

