-- ==== Sys2Proof/Decode.lean ====
section
/-! DEFINITION. Which row a host bus cycle is (R185 to R188). spec/opcode_table.json gives no row any bits, so no word
spells a command by the table; the cycles of the host bus do, by the register map and the command codes. -/

namespace Sys2Proof

/-- The command that a word spells by the table's bits: the table gives no row bits, so no word spells one. -/
def decodeTableWord (_nbits _w : Nat) : Option Instr := none

/-- Whether a code names a command (R188: every code not listed is UNKNOWN). -/
def namesCommand (code : Byte) : Bool :=
  [0x01, 0x02, 0x03, 0x04, 0x10, 0x11, 0x12, 0x13, 0x20, 0x21, 0x22, 0x30, 0x31, 0x32, 0x40, 0x41, 0x42, 0x50].contains
    code.toNat

/-- The row that a write of CMD with this code is (R188). -/
def commandOfCode (code : Byte) : Instr :=
  match code.toNat with
  | 0x01 => .bringup
  | 0x02 => .hold
  | 0x03 => .wake
  | 0x04 => .trafficReset
  | 0x10 => .hostRead
  | 0x11 => .hostWrite
  | 0x12 => .hostWriteByte
  | 0x13 => .hostCancel
  | 0x20 => .chStart
  | 0x21 => .chStop
  | 0x22 => .chAbort
  | 0x30 => .weakAdd
  | 0x31 => .weakRemove
  | 0x32 => .weakClear
  | 0x40 => .bankPause
  | 0x41 => .bankResume
  | 0x42 => .clearLost
  | 0x50 => .faultPop
  | _ => .unknownCommand code

/-- Whether a register has a row of its own for its writes: CMD, DATAL, DATAH, EV0 to EV2, TSEL, TDATA, FLTLOST and
CAUSE (R186's map). The other registers are the plain and the read-only ones of REGISTER_WRITE. -/
def hasOwnWriteRow (addr : BitVec 5) : Bool :=
  [0x01, 0x09, 0x0A, 0x0D, 0x0E, 0x0F, 0x13, 0x15, 0x1C, 0x1D].contains addr.toNat

/-- The row that a bus cycle is. A read cycle of a register other than DATAL, DATAH and TDATA has no side effect
(R186), and the table has no row for it. -/
def rowOfCycle : BusCycle → Option Instr
  | .write addr v =>
    some <| match addr.toNat with
      | 0x01 => commandOfCode v
      | 0x09 => .datalWrite v
      | 0x0A => .datahWrite v
      | 0x0D => .eventRegisterWrite .ev0 v
      | 0x0E => .eventRegisterWrite .ev1 v
      | 0x0F => .eventRegisterWrite .ev2 v
      | 0x13 => .tselWrite v
      | 0x15 => .tdataWrite v
      | 0x1C => .fltlostWrite v
      | 0x1D => .causeWrite v
      | _ => .registerWrite addr v
  | .read addr =>
    match addr.toNat with
    | 0x09 => some .datalRead
    | 0x0A => some .datahRead
    | 0x15 => some .tdataRead
    | _ => none

/-- The bus cycle that the host bus carries: a read cycle with CS# and RD# asserted, a write cycle with CS# and WR# asserted.
With CS# deasserted, or RD# and WR# asserted together, there is none (R185). -/
def BusPins.cycle (p : BusPins) : Option BusCycle :=
  match p.cs, p.rd, p.wr with
  | true, true, false => some (.read p.addr)
  | true, false, true => some (.write p.addr p.data)
  | _, _, _ => none

/-- The row that the host bus spells, if any. -/
def rowOfPins (p : BusPins) : Option Instr := p.cycle.bind rowOfCycle

/-- The bus cycle that carries a row out, for the rows that are bus cycles. -/
def cycleOfRow : Instr → Option BusCycle
  | .bringup => some (.write 0x01 0x01)
  | .hold => some (.write 0x01 0x02)
  | .wake => some (.write 0x01 0x03)
  | .trafficReset => some (.write 0x01 0x04)
  | .hostRead => some (.write 0x01 0x10)
  | .hostWrite => some (.write 0x01 0x11)
  | .hostWriteByte => some (.write 0x01 0x12)
  | .hostCancel => some (.write 0x01 0x13)
  | .chStart => some (.write 0x01 0x20)
  | .chStop => some (.write 0x01 0x21)
  | .chAbort => some (.write 0x01 0x22)
  | .weakAdd => some (.write 0x01 0x30)
  | .weakRemove => some (.write 0x01 0x31)
  | .weakClear => some (.write 0x01 0x32)
  | .bankPause => some (.write 0x01 0x40)
  | .bankResume => some (.write 0x01 0x41)
  | .clearLost => some (.write 0x01 0x42)
  | .faultPop => some (.write 0x01 0x50)
  | .unknownCommand code => some (.write 0x01 code)
  | .datalRead => some (.read 0x09)
  | .datahRead => some (.read 0x0A)
  | .datalWrite v => some (.write 0x09 v)
  | .datahWrite v => some (.write 0x0A v)
  | .tdataRead => some (.read 0x15)
  | .tdataWrite v => some (.write 0x15 v)
  | .tselWrite v => some (.write 0x13 v)
  | .eventRegisterWrite .ev0 v => some (.write 0x0D v)
  | .eventRegisterWrite .ev1 v => some (.write 0x0E v)
  | .eventRegisterWrite .ev2 v => some (.write 0x0F v)
  | .fltlostWrite v => some (.write 0x1C v)
  | .causeWrite v => some (.write 0x1D v)
  | .registerWrite addr v => some (.write addr v)
  | .pinReset | .powerOnReset | .resetEnd _ | .hwakeFallingEdge | .lreqAsserted _ | .lreqWithdrawn _
  | .lsyncRisingEdge _ | .tick _ | .warmupStart | .wakeSettleEnd | .periodTick _ | .openLimitExpiry _
  | .activationEnd _ | .prechargeEnd _ | .regularRefreshEnd _ | .spotRefreshEnd _ | .warmupRefreshEnd _
  | .wordTransferEnd | .rmwWordEnd | .dataPathGrant | .laneGrant | .fetchStrobeEnd | .depositStrobeEnd _ => none

end Sys2Proof
end

