-- ==== Sys2Proof/Config.lean ====
section
/-! DEFINITION. The free values: constants without a body, for what the spec leaves open. No proof can see what they
are, so a theorem about the model holds whatever they are. -/

namespace Sys2Proof

/-- The 18 bits (SP1, SP0, then the 16 data bits) that a store word reads as when nothing is known of its contents: not
written since the bank's contents last stopped being guaranteed (R12: "a word that has not been written since power-on,
or whose row lost its retention, may read back parity-bad"). It depends on how often that has happened to the bank and
on the word, so that reading a word twice in between gives the same bits. Entry 7. -/
opaque Config.unknownWord (epoch key : Nat) : BitVec 18

/-- The word a write puts on SD when its buffer holds none. No run comes to it (R28: "every DEPOSIT word has a claimed
word at the FIFO head"). Entry 23. -/
opaque Config.noWord : Data

/-- Orders the rows that fall due at one store clock: "either may be taken first" (R30 and many others). Entry 5. -/
opaque Config.tieKey (clock : Nat) (row : Instr) : Nat

/-- The order of the channels' period ticks inside a refresh tick of the autonomous clock (R74). Entry 6. -/
opaque Config.tickOrder (clock : Nat) : ChanOrder

/-- What HWAKE# carries at a store clock of the autonomous clock: `true` is high (R180). Entry 19. -/
opaque Config.hwakeLevel (clock : Nat) : Bool

/-- What LSYNCn carries at a store clock of the autonomous clock: `true` is high (R141). Entry 19. -/
opaque Config.lsyncLevel (clock : Nat) (c : Chan) : Bool

/-- What LD holds at the end of a DEPOSIT strobe that the autonomous clock ends (R145). Entry 20. -/
opaque Config.laneBus (clock : Nat) : Data

end Sys2Proof
end

