-- ==== Sys2Proof/Machine/State.lean ====
section
/-! DEFINITION. What the ES820 holds, as plain data, and its state right after reset. Items that the spec defines from
other items (the outstanding counts, HRD_PEND, QLEVEL, the data-path grant ...) have no field: they are functions
(INVENTORY.md, entry 22). -/

namespace Sys2Proof.Machine

/-! ### Mode Controller -/

/-- The seven modes (R168). -/
inductive Mode where
  | setup | warming | run | quiescing | holdEntry | hold | waking
  deriving DecidableEq, Repr

/-! ### Bank lanes -/

/-- What a REFRESHING bank performs (R16). -/
inductive RefreshKind where
  | regular | spot
  deriving DecidableEq, Repr

/-- The ten bank states (R13). An ACTIVATING bank keeps the row being opened (R17) and a REFRESHING bank the kind of the
refresh and the row, which its end reports (R19). `rowOpen` is the state OPEN. The one operation in progress (R16) is
told by the state. -/
inductive BankState where
  | absent
  | cold
  | warming
  | closed
  | activating (row : Row)
  | rowOpen
  | transferring
  | precharging
  | refreshing (kind : RefreshKind) (row : Row)
  | held
  deriving DecidableEq, Repr

/-- One line of the open-row table (R23). `timer` is `none` while the open-limit timer is stopped. -/
structure OpenLine where
  openRow : Option Row
  openPage : Bool
  expired : Bool
  timer : Option Nat
  deriving DecidableEq, Repr

/-- One bank lane with the bank's refresh state (R13, R16, R23, R43). `elapsed` counts the store clocks since the
operation in progress started (R16). -/
structure BankLane where
  state : BankState
  elapsed : Nat
  line : OpenLine
  pointer : Row
  debt : Nat
  paused : Bool
  lost : Bool
  deriving DecidableEq, Repr

/-! ### Weak Row List -/

/-- The two rates of a weak row (R58). -/
inductive WeakRate where
  | two | four
  deriving DecidableEq, Repr

/-- An entry of the Weak Row List (R58). -/
structure WeakEntry where
  bank : Bank
  row : Row
  rate : WeakRate
  pending : Bool
  misses : Nat
  deriving DecidableEq, Repr

/-! ### Request queue -/

/-- The source of a request (R70). -/
inductive Source where
  | host
  | chan (c : Chan)
  deriving DecidableEq, Repr

/-- The kind of a request (R70). -/
inductive Kind where
  | read | write | byteWrite
  deriving DecidableEq, Repr

/-- The order of a request's words (R4). -/
inductive Order where
  | linear | wrap4 | wrap8
  deriving DecidableEq, Repr

/-- The state of a request record (R71). -/
inductive RecState where
  | staging | waiting | active | resumable
  deriving DecidableEq, Repr

/-- The status of a request record (R70). -/
inductive Status where
  | good | error
  deriving DecidableEq, Repr

/-- The byte lane of a byte write (R70). -/
inductive ByteLane where
  | low | high
  deriving DecidableEq, Repr

/-- The line of the per-bank choice that found a candidate: a, b, c and d of R82 in this order. -/
inductive ChoiceLine where
  | urgentLine | bypassLine | openRowLine | oldestLine
  deriving DecidableEq, Repr

/-- A request record (R70). `ticksLeft` is `none` for a host record, `byteWrite` is `none` unless the kind is
BYTE_WRITE. `selected` is not a field of the spec's record: it is the READY condition of the record's bank (R13), kept
with the record that the bank has selected, and holds the line of R82 that the bank notes (entry 21). -/
structure Record where
  source : Source
  kind : Kind
  bank : Bank
  row : Row
  col : Col
  count : Nat
  order : Order
  done : Nat
  state : RecState
  urgent : Bool
  ticksLeft : Option Nat
  bypass : Nat
  byteWrite : Option (ByteLane × Byte)
  status : Status
  selected : Option ChoiceLine
  deriving DecidableEq, Repr

/-! ### The store -/

/-- A store word: 16 data bits, and the parity bits SP1 (bit 1, of the high byte) and SP0 (bit 0, of the low byte)
(R10). -/
structure StoreWord where
  data : Data
  parity : BitVec 2
  deriving DecidableEq, Repr

/-- The dynamic RAM array (R1, R10). `cells` lists the words whose contents are known, by key (bank and linear offset),
strictly rising. A word not listed has unknown contents and reads as a free value indexed by `epoch`, which counts how
often the bank's contents have stopped being guaranteed (entry 7). -/
structure Store where
  cells : List (Nat × StoreWord)
  epoch : PerBank Nat
  deriving DecidableEq, Repr

/-! ### Host side -/

/-- The state of the Host Transfer Unit (R96). `writeOpen` holds the count expected while the write buffer is open. -/
structure HostUnit where
  readBuf : List Data
  readLatch : Option Byte
  writeBuf : List Data
  writeOpen : Option Nat
  heldLow : Option Byte
  rdbad : Bool
  deriving DecidableEq, Repr

/-- The Host Transfer Unit after a reset (R96): buffers and latches empty, the write buffer closed, RDBAD clear. -/
def HostUnit.reset : HostUnit := ⟨[], none, [], none, none, false⟩

/-- The result codes (R187). -/
inductive Result where
  | ok | busy | mode | full | range | duplicate | notfound | listfull | bound | timing | nobank | region | empty
  | paused | unknown
  deriving DecidableEq, Repr

/-- The registers of the window that hold plain values, and the last result (R186, R187). -/
structure HostRegs where
  cmd : Result
  arg0 : Byte
  arg1 : Byte
  arg2 : Byte
  hcol : Byte
  hrowl : Byte
  hrowh : Byte
  hcount : Byte
  tsel : Byte
  tidx : Byte
  deriving DecidableEq, Repr

/-! ### Stream channels and lane port -/

/-- The state of a channel (R116). -/
inductive ChanState where
  | idle | running | draining | faulted
  deriving DecidableEq, Repr

/-- The reason of a channel's last slip (R117). -/
inductive SlipReason where
  | noSlip | backlog | queueFull | fifo
  deriving DecidableEq, Repr

/-- The lane request state (R142). -/
inductive LaneRequest where
  | quiet | pending
  deriving DecidableEq, Repr

/-- A stream channel with its lane FIFO and its lane pins (R114, R117, R118, R139, R141, R142). Held is the length of
`fifo`. -/
structure Channel where
  desc : Vector Byte 13
  state : ChanState
  cursor : Nat
  late : Nat
  slips : Nat
  lastSlip : SlipReason
  period : Nat
  fifo : List Data
  reserved : Nat
  claimed : Nat
  request : LaneRequest
  lreq : Bool
  lsyncHigh : Bool
  deriving DecidableEq, Repr

/-- The lane strobe in progress: a FETCH strobe with the word on LD (R144), or a DEPOSIT strobe with whether its FIFO
has been flushed since the grant (R145). -/
inductive Strobe where
  | fetch (c : Chan) (word : Data)
  | deposit (c : Chan) (flushed : Bool)
  deriving DecidableEq, Repr

/-! ### Faults and events -/

/-- The kinds of fault (R156). -/
inductive FaultKind where
  | parityRead | parityFetch | parityMerge | refreshLost
  deriving DecidableEq, Repr

/-- A fault record (R156). `place` is the row and column, absent for REFRESH_LOST. -/
structure FaultRecord where
  kind : FaultKind
  bank : Bank
  place : Option (Row × Col)
  source : Option Source
  repeats : Nat
  deriving DecidableEq, Repr

/-- The event flags and their enables (R163, R166). -/
structure EventRegs where
  ev0 : Byte
  ev1 : Byte
  ev2 : Byte
  en0 : Byte
  en1 : Byte
  en2 : Byte
  deriving DecidableEq, Repr

/-! ### The whole part -/

/-- The state of the ES820. Each field's rule is in INVENTORY.md under State. `pending` are the commands that wait, first
in first out; `clocks` counts the store clocks of the autonomous clock. -/
structure State where
  mode : Mode
  settle : Nat
  prechargeAll : Bool
  por : Bool
  pin : Bool
  heldPin : Bool
  heldPor : Bool
  hwakeHigh : Bool
  timing : Vector Byte 12
  tickCount : Nat
  banks : PerBank BankLane
  weak : List WeakEntry
  queue : List Record
  store : Store
  host : HostUnit
  regs : HostRegs
  hostData : Option Byte
  chans : PerChan Channel
  lanePtr : Chan
  strobe : Option Strobe
  faults : List FaultRecord
  fltLost : Nat
  faultView : Option FaultRecord
  events : EventRegs
  pending : List Instr
  clocks : Nat
  deriving DecidableEq, Repr

/-- Nothing stops the part: what the spec calls faults are records in a list (R156) and flags (R163). So the model has no
fault that ends a run. -/
inductive Fault where
  deriving DecidableEq, Repr

/-- The ways in which exec refuses a term. -/
inductive Refusal where
  /-- Raised by an arm of exec whose row has no meaning yet. Safe. No arm raises it. -/
  | notModelled (mnemonic : String)
  /-- Raised by UNKNOWN_COMMAND with a code that names a command: the term is not of that row (R187). Safe. -/
  | codeNamesCommand (code : Byte)
  /-- Raised by REGISTER_WRITE of a register whose writes are another row (R186). Safe. -/
  | registerHasOwnRow (addr : BitVec 5)
  deriving DecidableEq, Repr

/-! ### Reset -/

/-- A bank lane after reset (R13, R23, R43). -/
def BankLane.reset : BankLane where
  state := .absent
  elapsed := 0
  line := ⟨none, false, false, none⟩
  pointer := 0
  debt := 0
  paused := false
  lost := false

/-- A channel after reset (R114, R117, R139, R141, R142); LREQn deasserted is entry 19. -/
def Channel.reset : Channel where
  desc := Vector.replicate 13 0
  state := .idle
  cursor := 0
  late := 0
  slips := 0
  lastSlip := .noSlip
  period := 0
  fifo := []
  reserved := 0
  claimed := 0
  request := .quiet
  lreq := false
  lsyncHigh := false

/-- The timing table after reset (R193). -/
def timingReset : Vector Byte 12 :=
  #v[0x03, 0x03, 0x06, 0x01, 0x02, 0x20, 0x86, 0x01, 0x04, 0x10, 0x00, 0x00]

/-- The machine right after reset (R183): the end of a power-on reset during which RESET# was not held, so the reset
cause register shows POR alone (R184; entry 1). -/
def State.reset : State where
  mode := .setup
  settle := 0
  prechargeAll := false
  por := true
  pin := false
  heldPin := false
  heldPor := false
  hwakeHigh := true
  timing := timingReset
  tickCount := 0
  banks := PerBank.same BankLane.reset
  weak := []
  queue := []
  store := ⟨[], PerBank.same 0⟩
  host := HostUnit.reset
  regs := ⟨.ok, 0, 0, 0, 0, 0, 0, 0, 0, 0⟩
  hostData := none
  chans := PerChan.same Channel.reset
  lanePtr := .c0
  strobe := none
  faults := []
  fltLost := 0
  faultView := none
  events := ⟨0, 0, 0, 0, 0, 0⟩
  pending := []
  clocks := 0

end Sys2Proof.Machine
end

