-- ==== Sys2Proof/Machine/Flags.lean ====
section
/-! DEFINITION. The 24 event flags, their enables and IRQ# (R163 to R167, R192). -/

namespace Sys2Proof.Machine

/-- The event flags (R192's table). -/
inductive Event where
  | hrdDone | hwrDone | hostErr | dpUnder | dpOver | tblRef | modeDone | wakePin
  | late (c : Chan) | slip (c : Chan) | chFault | chIdle
  | fltNew | fltOvf | bankLost | spotMiss | laneStarve | laneBlock | pauseDebt | cmdRef
  deriving DecidableEq, Repr

/-- The register an event flag stands in. -/
def Event.reg : Event → EventReg
  | .hrdDone | .hwrDone | .hostErr | .dpUnder | .dpOver | .tblRef | .modeDone | .wakePin => .ev0
  | .late _ | .slip _ | .chFault | .chIdle => .ev1
  | .fltNew | .fltOvf | .bankLost | .spotMiss | .laneStarve | .laneBlock | .pauseDebt | .cmdRef => .ev2

/-- The bit of its register that an event flag stands at. -/
def Event.bit : Event → Nat
  | .hrdDone => 0
  | .hwrDone => 1
  | .hostErr => 2
  | .dpUnder => 3
  | .dpOver => 4
  | .tblRef => 5
  | .modeDone => 6
  | .wakePin => 7
  | .late c => c.num
  | .slip c => 3 + c.num
  | .chFault => 6
  | .chIdle => 7
  | .fltNew => 0
  | .fltOvf => 1
  | .bankLost => 2
  | .spotMiss => 3
  | .laneStarve => 4
  | .laneBlock => 5
  | .pauseDebt => 6
  | .cmdRef => 7

/-- The byte with one bit set, at the event's position. -/
def Event.mask (e : Event) : Byte := BitVec.twoPow 8 e.bit

/-- The flags of one event register. -/
def EventRegs.flags (r : EventRegs) : EventReg → Byte
  | .ev0 => r.ev0
  | .ev1 => r.ev1
  | .ev2 => r.ev2

/-- One event register replaced. -/
def EventRegs.setFlags (r : EventRegs) (reg : EventReg) (v : Byte) : EventRegs :=
  match reg with
  | .ev0 => { r with ev0 := v }
  | .ev1 => { r with ev1 := v }
  | .ev2 => { r with ev2 := v }

/-- Raising a flag: it is set, whether or not it was and whatever its enable holds (R163). -/
def EventRegs.raise (r : EventRegs) (e : Event) : EventRegs := r.setFlags e.reg (r.flags e.reg ||| e.mask)

/-- A host write to an event register: each flag at which a 1 is written is cleared (R163). -/
def EventRegs.writeOnes (r : EventRegs) (reg : EventReg) (v : Byte) : EventRegs :=
  r.setFlags reg (r.flags reg &&& ~~~v)

/-- Whether a flag is set. -/
def EventRegs.isSet (r : EventRegs) (e : Event) : Bool := (r.flags e.reg).getLsbD e.bit

/-- Whether a flag's enable is set: it stands at the flag's position in the enable register of the same number. -/
def EventRegs.isEnabled (r : EventRegs) (e : Event) : Bool :=
  match e.reg with
  | .ev0 => r.en0.getLsbD e.bit
  | .ev1 => r.en1.getLsbD e.bit
  | .ev2 => r.en2.getLsbD e.bit

/-- IRQ# is asserted exactly when some flag is set together with its enable (R167). -/
def EventRegs.irqAsserted (r : EventRegs) : Bool :=
  (r.ev0 &&& r.en0) != 0 || (r.ev1 &&& r.en1) != 0 || (r.ev2 &&& r.en2) != 0

/-- The state with an event flag raised. -/
def State.raise (s : State) (e : Event) : State := { s with events := s.events.raise e }

/-- The state with an event flag raised if its cause is there. -/
def State.raiseIf (s : State) (cause : Bool) (e : Event) : State := if cause then s.raise e else s

end Sys2Proof.Machine
end

