-- ==== Sys2Proof/Machine/Operands.lean ====
section
/-! DEFINITION. The fields of the registers, the timing table and the channel descriptors, and the operands that commands
take from them (R188, R192, R193). -/

namespace Sys2Proof.Machine

/-! ### Timing table (R193) -/

/-- The byte at an index of the timing table, as a number. -/
def State.timingByte (s : State) (i : Nat) : Nat := (s.timing[i]?.getD 0).toNat

/-- Duration of an activation. -/
def State.tACT (s : State) : Nat := s.timingByte 0
/-- Duration of a precharge. -/
def State.tPRE (s : State) : Nat := s.timingByte 1
/-- Duration of a refresh. -/
def State.tREF (s : State) : Nat := s.timingByte 2
/-- Duration of a word transfer. -/
def State.tWORD (s : State) : Nat := s.timingByte 3
/-- Duration of the merge part of an RMW word. -/
def State.tRMW (s : State) : Nat := s.timingByte 4
/-- The open limit, in units of 16 store clocks. -/
def State.openLim (s : State) : Nat := s.timingByte 5
/-- The store clocks between ticks: two bytes, low byte first. -/
def State.ri (s : State) : Nat := s.timingByte 6 + 256 * s.timingByte 7
/-- The pause limit: the debt at which a refresh is forced. -/
def State.pl (s : State) : Nat := s.timingByte 8
/-- The ticks of a bring-up or a wake. -/
def State.settleLimit (s : State) : Nat := s.timingByte 9
/-- The PAGEPOL bit of a bank: 1 for OPEN-PAGE. -/
def State.pagePol (s : State) (b : Bank) : Bool := (s.timing[10]?.getD 0).getLsbD b.num
/-- Whether a bank is present: its bit in the PRESENT mask (R1). -/
def State.present (s : State) (b : Bank) : Bool := (s.timing[11]?.getD 0).getLsbD b.num

/-! ### Channel descriptor (R114, R193) -/

/-- The direction of a channel. -/
inductive Direction where
  | fetch | deposit
  deriving DecidableEq, Repr

/-- The source of a channel's period; code 3 names none. -/
inductive PeriodSource where
  | store | refresh | lsync | nothing
  deriving DecidableEq, Repr

/-- The byte at an index of a channel's descriptor. -/
def Channel.descByte (c : Channel) (i : Nat) : Byte := c.desc[i]?.getD 0

/-- Direction: bit 0 of byte 0. -/
def Channel.direction (c : Channel) : Direction :=
  if (c.descByte 0).getLsbD 0 then .deposit else .fetch

/-- Bank: bits 2:1 of byte 0. -/
def Channel.bank (c : Channel) : Bank := Bank.ofBits ((c.descByte 0).extractLsb' 1 2)

/-- Period source: bits 4:3 of byte 0. -/
def Channel.source (c : Channel) : PeriodSource :=
  match ((c.descByte 0).extractLsb' 3 2).toNat with
  | 0 => .store
  | 1 => .refresh
  | 2 => .lsync
  | _ => .nothing

/-- Prescale: bits 6:5 of byte 0. -/
def Channel.prescale (c : Channel) : Nat :=
  match ((c.descByte 0).extractLsb' 5 2).toNat with
  | 0 => 1
  | 1 => 4
  | 2 => 16
  | _ => 64

/-- Base row: bytes 1 and 2. -/
def Channel.baseRow (c : Channel) : Nat := (c.descByte 1).toNat + 256 * (c.descByte 2).toNat
/-- Base column: byte 3. -/
def Channel.baseCol (c : Channel) : Nat := (c.descByte 3).toNat
/-- Region length: bytes 4 to 6. -/
def Channel.regionLength (c : Channel) : Nat :=
  (c.descByte 4).toNat + 256 * (c.descByte 5).toNat + 65536 * (c.descByte 6).toNat
/-- Burst length: byte 7. -/
def Channel.burst (c : Channel) : Nat := (c.descByte 7).toNat
/-- Allowance: byte 8. -/
def Channel.allowance (c : Channel) : Nat := (c.descByte 8).toNat
/-- Late limit: byte 9. -/
def Channel.lateLimit (c : Channel) : Nat := (c.descByte 9).toNat
/-- Scale: byte 10. -/
def Channel.scale (c : Channel) : Nat := (c.descByte 10).toNat
/-- Bound: bytes 11 and 12. -/
def Channel.bound (c : Channel) : Nat := (c.descByte 11).toNat + 256 * (c.descByte 12).toNat
/-- The offset of the region's first word (R9). -/
def Channel.baseOffset (c : Channel) : Nat := c.baseRow * 256 + c.baseCol
/-- The source events of one period tick (R119). -/
def Channel.product (c : Channel) : Nat := c.prescale * c.scale * c.bound
/-- Held: the words present in the lane FIFO (R118). -/
def Channel.held (c : Channel) : Nat := c.fifo.length

/-! ### Host address registers (R192) -/

/-- HBANK: bits 3:2 of HROWH. -/
def HostRegs.hbank (r : HostRegs) : Bank := Bank.ofBits (r.hrowh.extractLsb' 2 2)
/-- HROW: bits 1:0 of HROWH, then HROWL. -/
def HostRegs.hrow (r : HostRegs) : Row := r.hrowh.extractLsb' 0 2 ++ r.hrowl
/-- HORDER: bits 5:4 of HROWH; code 3 names no order. -/
def HostRegs.horder (r : HostRegs) : Option Order :=
  match (r.hrowh.extractLsb' 4 2).toNat with
  | 0 => some .linear
  | 1 => some .wrap4
  | 2 => some .wrap8
  | _ => none
/-- HCOUNT as a number. -/
def HostRegs.count (r : HostRegs) : Nat := r.hcount.toNat

/-! ### Command arguments (R188) -/

/-- The bank that ARG0 names, if any. -/
def HostRegs.argBank (r : HostRegs) : Option Bank := Bank.ofNat? r.arg0.toNat
/-- The channel that ARG0 names, if any. -/
def HostRegs.argChan (r : HostRegs) : Option Chan := Chan.ofNat? r.arg0.toNat
/-- The row operand of WEAK_ADD and WEAK_REMOVE, 0..2047: ARG1, then bits 2:0 of ARG2. -/
def HostRegs.argRow (r : HostRegs) : Nat := r.arg1.toNat + 256 * (r.arg2.extractLsb' 0 3).toNat
/-- The rate operand of WEAK_ADD: bits 7:4 of ARG2; only 2 and 4 name a rate. -/
def HostRegs.argRate (r : HostRegs) : Option WeakRate :=
  match (r.arg2.extractLsb' 4 4).toNat with
  | 2 => some .two
  | 4 => some .four
  | _ => none
/-- The byte lane of HOST_WRITE_BYTE: bit 0 of ARG0. -/
def HostRegs.argLane (r : HostRegs) : ByteLane := if r.arg0.getLsbD 0 then .high else .low

end Sys2Proof.Machine
end

