-- ==== Sys2Proof/Machine/Store.lean ====
section
/-! DEFINITION. The words of a request, and the store: its parity, its reads and its writes (R1 to R12). -/

namespace Sys2Proof.Machine

/-- Words in a bank (R2). -/
def bankWords : Nat := 262144

/-- The linear word offset of a row and column (R2). -/
def offsetOf (row : Row) (col : Col) : Nat := row.toNat * 256 + col.toNat

/-- The row of an offset (R2). -/
def rowOfOffset (o : Nat) : Row := BitVec.ofNat 10 (o / 256)

/-- The column of an offset (R2). -/
def colOfOffset (o : Nat) : Col := BitVec.ofNat 8 (o % 256)

/-- The group size of an order: 0 where the order has no group (R6). -/
def Order.group : Order → Nat
  | .linear => 0
  | .wrap4 => 4
  | .wrap8 => 8

/-- The offset of a column in a wrap group, `k` columns on from the start column (R6). -/
def wrapOffset (row : Row) (col : Col) (g k : Nat) : Nat :=
  let base := col.toNat / g * g
  row.toNat * 256 + (base + (col.toNat - base + k) % g)

/-- The offset of word `k` of a request (R4, R5, R6). -/
def Record.wordOffset (r : Record) (k : Nat) : Nat :=
  match r.order with
  | .linear => offsetOf r.row r.col + k
  | .wrap4 => wrapOffset r.row r.col 4 k
  | .wrap8 => wrapOffset r.row r.col 8 k

/-- The offsets of all the words of a request (R4). -/
def Record.words (r : Record) : List Nat := (List.range r.count).map r.wordOffset

/-- The offset of the next word: the word whose number is the done count (R4). -/
def Record.nextOffset (r : Record) : Nat := r.wordOffset r.done

/-- The row of the next word (R4). -/
def Record.nextRow (r : Record) : Row := rowOfOffset r.nextOffset

/-- The column of the next word (R4). -/
def Record.nextCol (r : Record) : Col := colOfOffset r.nextOffset

/-- Whether two records overlap: some address is among the words of both (R4). -/
def Record.overlaps (r q : Record) : Bool := r.bank == q.bank && r.words.any q.words.contains

/-! ### Parity -/

/-- The ones in a byte. -/
def ones (v : Byte) : Nat := (List.range 8).countP v.getLsbD

/-- The low and high byte of a data word (R10). -/
def lowByte (d : Data) : Byte := d.extractLsb' 0 8
def highByte (d : Data) : Byte := d.extractLsb' 8 8

/-- The word of a high and a low byte. -/
def wordOf (high low : Byte) : Data := high ++ low

/-- The parity bit generated for a byte: byte and bit together hold an odd number of ones (R11). -/
def parityOf (v : Byte) : Bool := ones v % 2 == 0

/-- The word as the part writes it, with both parity bits generated from the data (R11). -/
def StoreWord.fresh (d : Data) : StoreWord :=
  ⟨d, BitVec.ofBool (parityOf (highByte d)) ++ BitVec.ofBool (parityOf (lowByte d))⟩

/-- Whether a byte is good against its parity bit (R12). -/
def byteGood (v : Byte) (p : Bool) : Bool := (ones v + p.toNat) % 2 == 1

/-- Whether the low byte is good. -/
def StoreWord.lowGood (w : StoreWord) : Bool := byteGood (lowByte w.data) (w.parity.getLsbD 0)

/-- Whether the high byte is good. -/
def StoreWord.highGood (w : StoreWord) : Bool := byteGood (highByte w.data) (w.parity.getLsbD 1)

/-- A word is parity-bad when either byte is bad (R12). -/
def StoreWord.bad (w : StoreWord) : Bool := !(w.lowGood && w.highGood)

/-- Whether the byte that a byte write of this lane leaves untouched is good (R12, R36). -/
def StoreWord.untouchedGood (w : StoreWord) : ByteLane → Bool
  | .low => w.highGood
  | .high => w.lowGood

/-- The merged word: the untouched byte, and the new byte in its lane (R35). -/
def mergeByte (d : Data) (lane : ByteLane) (v : Byte) : Data :=
  match lane with
  | .low => wordOf (highByte d) v
  | .high => wordOf v (lowByte d)

/-! ### The array -/

/-- The key of a word: no two words of the store share it (R1, R2). -/
def wordKey (b : Bank) (row : Row) (col : Col) : Nat := b.num * bankWords + offsetOf row col

/-- A cell put in place by key; a cell of the same key is replaced. -/
def insertCell (k : Nat) (w : StoreWord) : List (Nat × StoreWord) → List (Nat × StoreWord)
  | [] => [(k, w)]
  | c :: rest =>
    if k < c.1 then (k, w) :: c :: rest
    else if k = c.1 then (k, w) :: rest
    else c :: insertCell k w rest

/-- The word that a cell list holds at a key, if it is listed. -/
def lookupCell (k : Nat) : List (Nat × StoreWord) → Option StoreWord
  | [] => none
  | c :: rest => if k = c.1 then some c.2 else lookupCell k rest

/-- The canonical form of a cell list: keys strictly rising. -/
def risingCells : List (Nat × StoreWord) → Bool
  | [] => true
  | [_] => true
  | c :: d :: rest => decide (c.1 < d.1) && risingCells (d :: rest)

/-- The canonical form of the store: cells strictly rising by key, every key that of a word of the four banks. -/
def Store.wf (st : Store) : Bool := risingCells st.cells && st.cells.all fun c => decide (c.1 < 4 * bankWords)

/-- An 18-bit free value as a store word. -/
def StoreWord.ofBits (v : BitVec 18) : StoreWord := ⟨v.extractLsb' 0 16, v.extractLsb' 16 2⟩

/-- The word the store holds at an address. A word of unknown contents reads as a free value (R12; entry 7). -/
def Store.read (st : Store) (b : Bank) (row : Row) (col : Col) : StoreWord :=
  (lookupCell (wordKey b row col) st.cells).getD
    (StoreWord.ofBits (Config.unknownWord (st.epoch.get b) (wordKey b row col)))

/-- A word of the store written. -/
def Store.write (st : Store) (b : Bank) (row : Row) (col : Col) (w : StoreWord) : Store :=
  { st with cells := insertCell (wordKey b row col) w st.cells }

/-- A bank whose contents are no longer guaranteed: none of its words is known from now on (R54; entry 9). -/
def Store.lose (st : Store) (b : Bank) : Store where
  cells := st.cells.filter fun c => c.1 / bankWords != b.num
  epoch := st.epoch.set b (st.epoch.get b + 1)

/-- Every bank's contents no longer guaranteed (R22, R183; entry 8). -/
def Store.loseAll (st : Store) : Store where
  cells := []
  epoch := st.epoch.map fun _ n => n + 1

end Sys2Proof.Machine
end

