-- ==== Sys2Proof/Machine/Ops.lean ====
section
/-! DEFINITION. The named operations that the steps share: updates of one bank or channel, items computed from others,
refresh needs, the fault list, the weak row list, the lane FIFOs, withdrawal and the result of a command. -/

namespace Sys2Proof.Machine

/-! ### One bank, one channel -/

/-- The lane of a bank. -/
def State.bank (s : State) (b : Bank) : BankLane := s.banks.get b

/-- A bank's lane replaced. -/
def State.setBank (s : State) (b : Bank) (l : BankLane) : State := { s with banks := s.banks.set b l }

/-- A channel. -/
def State.chan (s : State) (c : Chan) : Channel := s.chans.get c

/-- A channel replaced. -/
def State.setChan (s : State) (c : Chan) (x : Channel) : State := { s with chans := s.chans.set c x }

/-- A bank lane with another state and the clock of its operation at 0. -/
def BankLane.enter (l : BankLane) (st : BankState) : BankLane := { l with state := st, elapsed := 0 }

/-! ### Items computed from others -/

/-- Whether a pin or power-on reset is in force (R183). -/
def State.inReset (s : State) : Bool := s.heldPin || s.heldPor

/-- A step that has no effect while a reset is in force (R183; entry 17). -/
def State.outOfReset (s : State) (f : State → State) : State := if s.inReset then s else f s

/-- A record of source HOST and kind READ. -/
def Record.isHostRead (r : Record) : Bool := r.source == .host && r.kind == .read

/-- A record of source HOST and of kind WRITE or BYTE_WRITE. -/
def Record.isHostWrite (r : Record) : Bool := r.source == .host && r.kind != .read

/-- HRD_PEND: a host read record stands in the queue (R96). -/
def State.hrdPend (s : State) : Bool := s.queue.any Record.isHostRead

/-- HWR_PEND: a host write-kind record stands in the queue (R96). -/
def State.hwrPend (s : State) : Bool := s.queue.any Record.isHostWrite

/-- Whether the read buffer is released to the data port: no host read record stands in the queue (R96). -/
def State.readReleased (s : State) : Bool := !s.hrdPend

/-- The outstanding count of a channel: the number of its records in the queue (R117). -/
def State.outstanding (s : State) (c : Chan) : Nat := s.queue.countP (·.source == .chan c)

/-- QLEVEL (R73). -/
def State.qlevel (s : State) : Nat := s.queue.length

/-- QFULL: the queue holds 8 records (R73). -/
def State.queueFull (s : State) : Bool := decide (8 ≤ s.queue.length)

/-- The record in flight, with its place: the ACTIVE one (R26, R71). -/
def State.inFlight (s : State) : Option (Nat × Record) :=
  match s.queue.findIdx? (·.state == .active) with
  | none => none
  | some i => s.queue[i]?.map fun r => (i, r)

/-- Whether the data path is free: no bank is TRANSFERRING (R26). -/
def State.pathFree (s : State) : Bool := Bank.all.all fun b => (s.bank b).state != .transferring

/-- Whether a bank is READY: it is OPEN and has selected a record (R13). -/
def State.ready (s : State) (b : Bank) : Bool :=
  (s.bank b).state == .rowOpen && s.queue.any fun r => r.bank == b && r.selected.isSome

/-- Whether every present bank is in a state. -/
def State.allPresent (s : State) (st : BankState) : Bool :=
  Bank.all.all fun b => !s.present b || (s.bank b).state == st

/-- Whether the tick timer runs in a mode (R38). -/
def Mode.timerRuns : Mode → Bool
  | .setup | .hold => false
  | .warming | .run | .quiescing | .holdEntry | .waking => true

/-! ### Refresh needs -/

/-- A forced refresh need: debt at least PL and not paused (R45). -/
def State.forcedNeed (s : State) (b : Bank) : Bool := decide (s.pl ≤ (s.bank b).debt) && !(s.bank b).paused

/-- The pending entry of a bank with the lowest list index, which a spot refresh serves (R62). -/
def State.pendingSpot (s : State) (b : Bank) : Option WeakEntry := s.weak.find? fun e => e.bank == b && e.pending

/-- A spot refresh need: a pending entry, and not paused (R62). -/
def State.spotNeed (s : State) (b : Bank) : Bool := (s.pendingSpot b).isSome && !(s.bank b).paused

/-- A forced or spot refresh need. -/
def State.refreshNeed (s : State) (b : Bank) : Bool := s.forcedNeed b || s.spotNeed b

/-- The stop causes of a transfer; they also drop a READY selection (R30, R85). -/
def State.stopCause (s : State) (b : Bank) : Bool :=
  s.refreshNeed b || (s.bank b).line.expired || s.prechargeAll

/-! ### The fault list -/

/-- Whether two fault records have the same identity: kind, bank, row and column (R156). -/
def FaultRecord.same (f g : FaultRecord) : Bool := f.kind == g.kind && f.bank == g.bank && f.place == g.place

/-- One report more on a record: its repeat count rises, up to 255 (R158). -/
def FaultRecord.again (f : FaultRecord) : FaultRecord := { f with repeats := min 255 (f.repeats + 1) }

/-- A report handed to the Fault Unit (R158): a record of its identity takes it, or it is appended with FLT_NEW, or the
list is full and it is lost with FLT_OVF. `f` carries the report's fields and a repeat count of 1. -/
def State.recordFault (s : State) (f : FaultRecord) : State :=
  if s.faults.any f.same then { s with faults := s.faults.map fun g => if f.same g then g.again else g }
  else if s.faults.length < 8 then State.raise { s with faults := s.faults ++ [f] } .fltNew
  else State.raise { s with fltLost := min 255 (s.fltLost + 1) } .fltOvf

/-- A report made if its cause is there. -/
def State.recordFaultIf (s : State) (cause : Bool) (f : FaultRecord) : State := if cause then s.recordFault f else s

/-! ### The weak row list -/

/-- The spot rows of an entry (R59). -/
def WeakEntry.spotRows (e : WeakEntry) : List Row :=
  match e.rate with
  | .two => [e.row + 512]
  | .four => [e.row + 256, e.row + 512, e.row + 768]

/-- Whether a report of a regular refresh gives an entry a spot due (R60). -/
def WeakEntry.due (e : WeakEntry) (b : Bank) (row : Row) (paused : Bool) : Bool :=
  e.bank == b && !paused && e.spotRows.contains row

/-- An entry after the report of a regular refresh: its own row clears its spot (R61), a due makes the spot pending or is a
miss (R60). -/
def WeakEntry.afterRefresh (e : WeakEntry) (b : Bank) (row : Row) (paused : Bool) : WeakEntry :=
  if e.bank = b ∧ e.row = row then { e with pending := false }
  else if e.due b row paused then
    if e.pending then { e with misses := min 15 (e.misses + 1) } else { e with pending := true }
  else e

/-- The report of a regular refresh to the Weak Row List: every entry takes it, and a miss raises SPOT_MISS (R60, R61). -/
def State.reportRegular (s : State) (b : Bank) (row : Row) (paused : Bool) : State :=
  let s1 : State := { s with weak := s.weak.map fun e => e.afterRefresh b row paused }
  s1.raiseIf (s.weak.any fun e => e.due b row paused && e.pending && e.row != row) .spotMiss

/-- The report of a spot refresh: the pending flag of the entry with that bank and row is cleared (R63). -/
def State.reportSpot (s : State) (b : Bank) (row : Row) : State :=
  { s with weak := s.weak.map fun e => if e.bank = b ∧ e.row = row then { e with pending := false } else e }

/-- Whether an entry sorts before another: by bank, then by row (R57). -/
def WeakEntry.before (e f : WeakEntry) : Bool :=
  decide (e.bank.num < f.bank.num) || (e.bank == f.bank && decide (e.row.toNat < f.row.toNat))

/-- An entry put at the place its bank and row give it (R57, R64). -/
def insertWeak (e : WeakEntry) : List WeakEntry → List WeakEntry
  | [] => [e]
  | f :: rest => if e.before f then e :: f :: rest else f :: insertWeak e rest

/-! ### The lane FIFOs -/

/-- The strobe in progress after the FIFO of a channel was flushed: a DEPOSIT strobe of it loses its word (R145). -/
def Strobe.afterFlush (c : Chan) : Strobe → Strobe
  | .deposit d flushed => .deposit d (flushed || d == c)
  | .fetch d w => .fetch d w

/-- The FIFO of a channel flushed: held, reserved and claimed become 0 (R122, R135). -/
def State.flushFifo (s : State) (c : Chan) : State :=
  { s.setChan c { s.chan c with fifo := [], reserved := 0, claimed := 0 } with
    strobe := s.strobe.map (Strobe.afterFlush c) }

/-! ### Withdrawal -/

/-- The words that a list of records still reserves or claims for a channel, of one kind: the sum of their counts. -/
def countsOf (k : Kind) (rs : List Record) : Nat := ((rs.filter (·.kind == k)).map Record.count).sum

/-- The WAITING records of a channel: those a withdrawal removes (R91). -/
def Record.removable (c : Chan) (r : Record) : Bool := r.source == .chan c && r.state == .waiting

/-- Every WAITING record of a channel withdrawn, with its reservation or claim released (R91). -/
def State.withdrawChan (s : State) (c : Chan) : State :=
  let gone := s.queue.filter (Record.removable c)
  let x := s.chan c
  { s.setChan c { x with reserved := x.reserved - countsOf .read gone, claimed := x.claimed - countsOf .write gone } with
    queue := s.queue.filter fun r => !Record.removable c r }

/-! ### Commands -/

/-- The result of a CMD write placed in CMD; a refusal raises CMD_REF and changes nothing else (R164, R187). -/
def State.refuse (s : State) (r : Result) : State :=
  State.raise { s with regs := { s.regs with cmd := r } } .cmdRef

/-- A CMD write that is taken: the result OK, and the command's effect in the same happening (R187). -/
def State.accept (s : State) (effect : State → State) : State := effect { s with regs := { s.regs with cmd := .ok } }

/-- The modes in which a command is taken (the commands-by-mode table of Controller Modes): elsewhere it is refused with
BUSY in QUIESCING and with MODE in the other modes, TRAFFIC_RESET with MODE in QUIESCING too (R173, R175). -/
def modeTest (mode : Mode) (taken : List Mode) (quiescing : Result) : Option Result :=
  if taken.contains mode then none else if mode = .quiescing then some quiescing else some .mode

/-- A command: the mode test, then its own checks in their order, then its effect (R187). `check` gives the result of the
first check that fails. While a reset is in force the write is ignored (R183). -/
def State.command (s : State) (taken : List Mode) (quiescing : Result) (check : State → Option Result)
    (effect : State → State) : State :=
  s.outOfReset fun s =>
    match modeTest s.mode taken quiescing with
    | some r => s.refuse r
    | none =>
      match check s with
      | some r => s.refuse r
      | none => s.accept effect

/-- The first check of a list that fails. -/
def firstFailure : List (Bool × Result) → Option Result
  | [] => none
  | (fails, r) :: rest => if fails then some r else firstFailure rest

end Sys2Proof.Machine
end

