-- ==== Sys2Proof/Machine/Lane.lean ====
section
/-! DEFINITION. The Lane Port: lane requests, the lane arbiter and the strobes (R139 to R152). -/

namespace Sys2Proof.Machine

/-- The channel of a strobe. -/
def Strobe.chan : Strobe → Chan
  | .fetch c _ => c
  | .deposit c _ => c

/-- Whether a strobe of a channel is in progress. -/
def State.strobing (s : State) (c : Chan) : Bool :=
  match s.strobe with
  | none => false
  | some st => st.chan == c

/-- Whether a first sighting of a request raises LANE_STARVE: FETCH with held 0 (R148). -/
def Channel.starves (x : Channel) : Bool := x.direction == .fetch && x.held == 0

/-- Whether a first sighting of a request raises LANE_BLOCK: DEPOSIT, RUNNING, held 64 (R149). -/
def Channel.blocks (x : Channel) : Bool := x.direction == .deposit && x.state == .running && x.held == 64

/-- LREQn sampled asserted: a QUIET request becomes PENDING with the lane event test, except while a strobe of the channel is in
progress (R142, R148, R149). LREQn is an input pin, and its level is kept in a reset too. -/
def execLreqAsserted (c : Chan) (s : State) : Host.Outcome State Fault Refusal :=
  .next <|
    let s1 := s.setChan c { s.chan c with lreq := true }
    s1.outOfReset fun s1 =>
      let x := s1.chan c
      if x.request = .quiet ∧ !s1.strobing c then
        ((s1.setChan c { x with request := .pending }).raiseIf x.starves .laneStarve).raiseIf x.blocks .laneBlock
      else s1

/-- LREQn sampled deasserted: a PENDING request with no strobe of the channel in progress is withdrawn (R142). -/
def execLreqWithdrawn (c : Chan) (s : State) : Host.Outcome State Fault Refusal :=
  .next <|
    let s1 := s.setChan c { s.chan c with lreq := false }
    s1.outOfReset fun s1 =>
      if s1.strobing c then s1 else s1.setChan c { s1.chan c with request := .quiet }

/-- Whether a channel can be served on the lane (R143). -/
def Channel.servable (x : Channel) : Bool :=
  x.request == .pending &&
    match x.direction with
    | .fetch => decide (0 < x.held)
    | .deposit => x.state == .running && decide (x.held < 64)

/-- The channel that the lane arbiter grants to: the first servable one from its pointer on (R146). -/
def State.laneChoice (s : State) : Option Chan :=
  [s.lanePtr, s.lanePtr.next, s.lanePtr.next.next].find? fun c => (s.chan c).servable

/-- A lane grant to a channel: its strobe starts and the pointer moves on. A FETCH word leaves the FIFO at once (R144, R145,
R146). -/
def State.laneServe (s : State) (c : Chan) : State :=
  let x := s.chan c
  let s1 := { s with lanePtr := c.next }
  match x.direction, x.fifo with
  | .deposit, _ => { s1 with strobe := some (.deposit c false) }
  | .fetch, [] => s1
  | .fetch, w :: rest => { s1.setChan c { x with fifo := rest } with strobe := some (.fetch c w) }

/-- LANE_GRANT: with the bus free the arbiter grants to the first servable channel (R146). -/
def execLaneGrant (s : State) : Host.Outcome State Fault Refusal :=
  .next <| s.outOfReset fun s =>
    match s.strobe, s.laneChoice with
    | none, some c => s.laneServe c
    | _, _ => s

/-- The end of a strobe of a channel: the bus is free and the request is answered (R142). -/
def State.endStrobe (s : State) (c : Chan) : State :=
  { s.setChan c { s.chan c with request := .quiet } with strobe := none }

/-- FETCH_STROBE_END: LD is released and the request answered (R144). -/
def execFetchStrobeEnd (s : State) : Host.Outcome State Fault Refusal :=
  .next <| s.outOfReset fun s =>
    match s.strobe with
    | some (.fetch c _) => s.endStrobe c
    | _ => s

/-- DEPOSIT_STROBE_END: LD is captured and appended to the FIFO, unless the FIFO was flushed since the grant (R145). So it is too where
the channel has stopped and its descriptor has been rewritten to FETCH since the grant, although R139 says that the lane never adds to
a FETCH FIFO: the model's reading, entry 38. -/
def execDepositStrobeEnd (ld : Data) (s : State) : Host.Outcome State Fault Refusal :=
  .next <| s.outOfReset fun s =>
    match s.strobe with
    | some (.deposit c flushed) =>
      let x := s.chan c
      (if flushed then s else s.setChan c { x with fifo := x.fifo ++ [ld] }).endStrobe c
    | _ => s

end Sys2Proof.Machine
end

