-- ==== Sys2Proof/Machine/Scheduler.lean ====
section
/-! DEFINITION. The Scheduler: eligibility, the per-bank choice with the hold sequence, and the data-path arbiter
(R78 to R88), and the mode passages that the choice and the ends of operations report (R176, R179, R95). -/

namespace Sys2Proof.Machine

/-! ### Eligibility -/

/-- Whether an older record holds a younger one back: the same source, or an overlap with a write on either side (R78). -/
def Record.holdsBack (older r : Record) : Bool :=
  older.source == r.source || (older.overlaps r && (older.kind != .read || r.kind != .read))

/-- Whether a record is eligible behind the records `older` that are older than it (R78). -/
def eligible (older : List Record) (r : Record) : Bool :=
  (r.state == .waiting || r.state == .resumable) && !older.any (·.holdsBack r)

/-- The place of the oldest record for which `p`, told the records older than it, holds. `older` stands before `rs`. -/
def oldestSuch (p : List Record → Record → Bool) (older : List Record) : List Record → Option Nat
  | [] => none
  | r :: rest => if p older r then some older.length else oldestSuch p (older ++ [r]) rest

/-- The candidate of a bank: the line of R82 that finds it, and its place in the queue. -/
def State.candidate (s : State) (b : Bank) : Option (ChoiceLine × Nat) :=
  let find (p : Record → Bool) := oldestSuch (fun older r => eligible older r && r.bank == b && p r) [] s.queue
  match find (·.urgent) with
  | some i => some (.urgentLine, i)
  | none =>
    match find (·.bypass == 8) with
    | some i => some (.bypassLine, i)
    | none =>
      match find fun r => (s.bank b).state == .rowOpen && some r.nextRow == (s.bank b).line.openRow with
      | some i => some (.openRowLine, i)
      | none => (find fun _ => true).map fun i => (.oldestLine, i)

/-! ### The operations a choice starts -/

/-- The READY selection of a bank dropped (R85). The record keeps its own state (R71). -/
def State.dropSelection (s : State) (b : Bank) : State :=
  { s with queue := s.queue.map fun r => if r.bank = b then { r with selected := none } else r }

/-- A bank takes the record at a place as its selection, with the line noted, and is READY (R82, R83). -/
def State.select (s : State) (line : ChoiceLine) (i : Nat) : State :=
  { s with queue := s.queue.modify i fun r => { r with selected := some line } }

/-- A precharge starts; it drops any request the bank had selected (R18). -/
def State.startPrecharge (s : State) (b : Bank) : State :=
  (s.dropSelection b).setBank b ((s.bank b).enter .precharging)

/-- An activation of a row starts (R17). -/
def State.startActivation (s : State) (b : Bank) (row : Row) : State :=
  s.setBank b ((s.bank b).enter (.activating row))

/-- A regular refresh of the row at the pointer starts (R19). -/
def State.startRegular (s : State) (b : Bank) : State :=
  s.setBank b ((s.bank b).enter (.refreshing .regular (s.bank b).pointer))

/-- A spot refresh of a weak row starts (R19, R62). -/
def State.startSpot (s : State) (b : Bank) (row : Row) : State :=
  s.setBank b ((s.bank b).enter (.refreshing .spot row))

/-- A bank enters HELD and reports itself held; the report that leaves every present bank HELD makes the mode HOLD
(R20, R179). -/
def State.enterHeld (s : State) (b : Bank) : State :=
  let s1 := s.setBank b ((s.bank b).enter .held)
  if s1.allPresent .held then State.raise { s1 with mode := .hold, prechargeAll := false, tickCount := 0 } .modeDone
  else s1

/-! ### The per-bank choice -/

/-- Whether a bank is in the choice (R80). -/
def State.inChoice (s : State) (b : Bank) : Bool :=
  (s.mode == .run || s.mode == .quiescing || s.mode == .holdEntry) &&
    ((s.bank b).state == .closed || (s.bank b).state == .rowOpen) && !s.ready b

/-- The hold sequence of a CLOSED bank (R84). -/
def State.holdSequence (s : State) (b : Bank) : State :=
  if 0 < (s.bank b).debt then s.startRegular b
  else
    match s.pendingSpot b with
    | some e => s.startSpot b e.row
    | none => s.enterHeld b

/-- The choice of an OPEN bank: lines 1 to 3 close its row (R81), line 4 acts on the candidate, line 5 on its absence
(R83). -/
def State.chooseOpen (s : State) (b : Bank) : State :=
  if s.stopCause b then s.startPrecharge b
  else
    match s.candidate b with
    | some (line, i) =>
      if s.queue[i]?.map Record.nextRow = (s.bank b).line.openRow then s.select line i else s.startPrecharge b
    | none => if (s.bank b).line.openPage then s else s.startPrecharge b

/-- The choice of a CLOSED bank (R81, R83, R84). -/
def State.chooseClosed (s : State) (b : Bank) : State :=
  if s.mode = .holdEntry ∧ s.prechargeAll then s.holdSequence b
  else if s.forcedNeed b then s.startRegular b
  else
    match s.pendingSpot b, (s.bank b).paused with
    | some e, false => s.startSpot b e.row
    | _, paused =>
      match (s.candidate b).bind fun c => s.queue[c.2]? with
      | some r => s.startActivation b r.nextRow
      | none => if 0 < (s.bank b).debt ∧ !paused then s.startRegular b else s

/-- The per-bank choice, for a bank that is in it (R80). -/
def State.choose (s : State) (b : Bank) : State :=
  if s.inChoice b then
    if (s.bank b).state = .rowOpen then s.chooseOpen b else s.chooseClosed b
  else s

/-- A bank looks again at its inputs: a READY selection is dropped if a need, the expired flag or a mode action is there
(R85), and the choice is made if the bank is in it (R80). -/
def State.reconsider (s : State) (b : Bank) : State :=
  if s.ready b && s.stopCause b then (s.dropSelection b).choose b else s.choose b

/-- Every bank looks again at its inputs. -/
def State.reconsiderAll (s : State) : State :=
  (((s.reconsider .b0).reconsider .b1).reconsider .b2).reconsider .b3

/-! ### Reports to the Mode Controller -/

/-- The test for the end of the quiesce, on the state a happening leaves (R176). After the quiesce the Host Transfer Unit stands as
after reset (R111), so a byte written to DATAL during the quiesce is absent then: the traffic reset, which R105 names, lasts to its
end (R173; entry 39). -/
def State.quiesceTest (s : State) : State :=
  if s.mode = .quiescing ∧ s.queue = [] ∧ s.pathFree ∧ s.allPresent .closed then
    State.raise { s with mode := .run, prechargeAll := false, host := HostUnit.reset } .modeDone
  else s

/-- The reports that follow a removal from the queue: the queue empty in HOLD_ENTRY makes the precharge-all action present
(R95, R178), and the quiesce test is made (R176). -/
def State.afterRemoval (s : State) : State :=
  if s.mode = .holdEntry ∧ s.queue = [] then { s with prechargeAll := true } else s.quiesceTest

/-! ### The data-path arbiter -/

/-- The place of the selection that the arbiter grants to: the oldest urgent selection of a READY bank, or else the oldest
selection (R86). -/
def State.grantPlace (s : State) : Option Nat :=
  let isSelection (r : Record) : Bool := r.selected.isSome && s.ready r.bank
  match s.queue.findIdx? fun r => isSelection r && r.urgent with
  | some i => some i
  | none => s.queue.findIdx? isSelection

/-- The bypass count of a record passed over by a row hit (R87). -/
def Record.bypassed (r : Record) : Record := { r with bypass := min 8 (r.bypass + 1) }

/-- The records older than one granted by line c: those of its bank that are eligible are bypassed (R87). `before` stands
before `rs`. -/
def bypassOlder (b : Bank) (before : List Record) : List Record → List Record
  | [] => []
  | r :: rest => (if r.bank = b ∧ eligible before r then r.bypassed else r) :: bypassOlder b (before ++ [r]) rest

/-- The queue after the grant to the record at a place (R27, R87). -/
def grantQueue (q : List Record) (i : Nat) (r : Record) : List Record :=
  let older := q.take i
  (if r.selected = some .openRowLine then bypassOlder r.bank [] older else older) ++
    { r with state := .active, selected := none } :: q.drop (i + 1)

/-- A decision of the arbiter: the bank enters TRANSFERRING, its record ACTIVE, and the first word starts (R27, R86). -/
def State.grant (s : State) : State :=
  if s.pathFree then
    match s.grantPlace with
    | none => s
    | some i =>
      match s.queue[i]? with
      | none => s
      | some r =>
        { s.setBank r.bank ((s.bank r.bank).enter .transferring) with queue := grantQueue s.queue i r }
  else s

end Sys2Proof.Machine
end

