-- ==== Sys2Proof/Machine/Clock.lean ====
section
/-! DEFINITION. The part acting on its own, with nothing pending: the arbiters, then one store clock, which moves every counter
and makes the rows that fall due at it pending (R16, R25, R38, R86, R119, R141, R146; entries 4 to 6 and 20). -/

namespace Sys2Proof.Machine

/-- The duration of the word operation in progress (R16). -/
def State.wordDuration (s : State) : Nat :=
  match s.inFlight with
  | some (_, r) => if r.kind = .byteWrite then s.tWORD + s.tRMW + s.tWORD else s.tWORD
  | none => s.tWORD

/-- The duration of the operation in progress on a bank, and the row that is its end (R16). -/
def State.operation (s : State) (b : Bank) : Option (Nat × Instr) :=
  match (s.bank b).state with
  | .activating _ => some (s.tACT, .activationEnd b)
  | .precharging => some (s.tPRE, .prechargeEnd b)
  | .refreshing .regular _ => some (s.tREF, .regularRefreshEnd b)
  | .refreshing .spot _ => some (s.tREF, .spotRefreshEnd b)
  | .warming => some (s.tREF, .warmupRefreshEnd b)
  | .transferring =>
    some (s.wordDuration,
      match s.inFlight with
      | some (_, r) => if r.kind = .byteWrite then .rmwWordEnd else .wordTransferEnd
      | none => .wordTransferEnd)
  | .absent | .cold | .closed | .rowOpen | .held => none

/-- Whether a bank's open-limit timer counts: while its row stays open, in OPEN and TRANSFERRING (R25). -/
def BankState.countsOpen : BankState → Bool
  | .rowOpen | .transferring => true
  | .absent | .cold | .warming | .closed | .activating _ | .precharging | .refreshing _ _ | .held => false

/-- A bank lane one store clock later (R16, R25). -/
def BankLane.clocked (l : BankLane) : BankLane :=
  { l with
    elapsed := l.elapsed + 1
    line := { l.line with timer := if l.state.countsOpen then l.line.timer.map (· + 1) else l.line.timer } }

/-- A channel one store clock later: one source event if its source is STORE (R119), and a sample of LSYNCn that finds it low
taken (R141). -/
def Channel.clocked (x : Channel) (lsync : Bool) : Channel :=
  { x with period := if x.source = .store then x.period + 1 else x.period, lsyncHigh := x.lsyncHigh && lsync }

/-- The state one store clock later, before the rows that fall due are taken. Samples of HWAKE# and LSYNCn that make no edge are
taken here; those that make one are rows (R141, R180; entry 19). -/
def State.clocked (s : State) : State :=
  { s with
    clocks := s.clocks + 1
    hwakeHigh := s.hwakeHigh || Config.hwakeLevel (s.clocks + 1)
    tickCount := if s.mode.timerRuns then s.tickCount + 1 else s.tickCount
    banks := s.banks.map fun _ l => l.clocked
    chans := s.chans.map fun c x => x.clocked (Config.lsyncLevel (s.clocks + 1) c) }

/-- The row that a strobe's end is (R144, R145). -/
def State.strobeEnd (s : State) : Strobe → Instr
  | .fetch _ _ => .fetchStrobeEnd
  | .deposit _ _ => .depositStrobeEnd (Config.laneBus s.clocks)

/-- The rows that fall due at the store clock that has just been counted, each with its place in the free order. A LREQn line held
asserted is sampled at every store clock, and after the end of its channel's strobe (R141, R142); HWAKE# low after high and LSYNCn high
after low are edges (R141, R180). -/
def State.dueRows (s : State) : List (Nat × Instr) :=
  let key (row : Instr) := Config.tieKey s.clocks row
  let whenDue (due : Bool) (row : Instr) : List (Nat × Instr) := if due then [(key row, row)] else []
  let ofBank (b : Bank) : List (Nat × Instr) :=
    (match s.operation b with
      | some (d, row) => whenDue (decide (d ≤ (s.bank b).elapsed)) row
      | none => []) ++
    whenDue ((s.bank b).state.countsOpen && ((s.bank b).line.timer.map fun n => decide (s.openLim * 16 ≤ n)).getD false)
      (.openLimitExpiry b)
  let ofChan (c : Chan) : List (Nat × Instr) :=
    let x := s.chan c
    whenDue (x.source == .store && decide (x.product ≤ x.period)) (.periodTick ⟨c, .counter⟩) ++
    whenDue (!x.lsyncHigh && Config.lsyncLevel s.clocks c) (.lsyncRisingEdge c) ++
    (if x.lreq && (x.request == .quiet || s.strobing c) then
      [((if s.strobing c then (s.strobe.map fun st => key (s.strobeEnd st)).getD 0 + 1 else 0) +
        key (.lreqAsserted c), .lreqAsserted c)]
     else [])
  whenDue (s.mode.timerRuns && decide (s.ri ≤ s.tickCount)) (.tick ⟨Config.tickOrder s.clocks, .counter⟩) ++
  whenDue (s.hwakeHigh && !Config.hwakeLevel s.clocks) .hwakeFallingEdge ++
  Bank.all.flatMap ofBank ++
  (match s.strobe with
    | some st => [(key (s.strobeEnd st), s.strobeEnd st)]
    | none => []) ++
  Chan.all.flatMap ofChan

/-- A row put among rows in the order of their keys; of equal keys the one that stood first stays first. -/
def insertDue (r : Nat × Instr) : List (Nat × Instr) → List (Nat × Instr)
  | [] => [r]
  | q :: rest => if r.1 < q.1 then r :: q :: rest else q :: insertDue r rest

/-- Rows in the order of their keys. -/
def sortDue (rows : List (Nat × Instr)) : List (Nat × Instr) := rows.foldl (fun acc r => insertDue r acc) []

/-- The rows due at one store clock with the arbiters' decisions among them, where two or more are due: a decision may be taken
between two happenings that come together (R85, R147). -/
def State.dueWithArbiters (s : State) : List (Nat × Instr) :=
  match s.dueRows with
  | [] => []
  | [r] => [r]
  | rows =>
    rows ++ [(Config.tieKey s.clocks .dataPathGrant, .dataPathGrant), (Config.tieKey s.clocks .laneGrant, .laneGrant)]

/-- One store clock: the counters move, and the rows due become pending in a free order. -/
def State.storeClock (s : State) : State :=
  let s1 := s.clocked
  { s1 with pending := s1.pending ++ (sortDue s1.dueWithArbiters).map (·.2) }

/-- Whether the data-path arbiter has a decision to make (R86). -/
def State.canGrant (s : State) : Bool := s.pathFree && s.grantPlace.isSome

/-- Whether the lane arbiter has a decision to make (R146). -/
def State.canServe (s : State) : Bool := s.strobe.isNone && s.laneChoice.isSome

/-- The part with nothing pending: an arbiter with a decision to make makes it next, and otherwise a store clock passes. A part held in
reset counts nothing (R183). -/
def State.idle (s : State) : State :=
  if s.inReset then { s with clocks := s.clocks + 1 }
  else if s.canGrant then { s with pending := s.pending ++ [.dataPathGrant] }
  else if s.canServe then { s with pending := s.pending ++ [.laneGrant] }
  else s.storeClock

end Sys2Proof.Machine
end

