-- ==== Sys2Proof/Machine/BankEvents.lean ====
section
/-! DEFINITION. The ends of activations, precharges and refreshes (R15, R17 to R19, R47, R63, R172). The end of an operation
that the bank does not have in progress is no happening and changes nothing (entry 3). -/

namespace Sys2Proof.Machine

/-- What follows the end of an operation of a bank: the quiesce test on the state it leaves, then the bank's choice
(R29, R80, R176). -/
def State.afterOperation (s : State) (b : Bank) : State := s.quiesceTest.reconsider b

/-- ACTIVATION_END: OPEN with the activated row, expired clear, the open-limit timer from 0 (R17, R25). -/
def execActivationEnd (b : Bank) (s : State) : Host.Outcome State Fault Refusal :=
  .next <| s.outOfReset fun s =>
    let l := s.bank b
    match l.state with
    | .activating row =>
      (s.setBank b
        { l.enter .rowOpen with
          line := { l.line with openRow := some row, expired := false, timer := some 0 } }).afterOperation b
    | _ => s

/-- PRECHARGE_END: CLOSED, the open row absent, expired clear, the timer stopped (R18). -/
def execPrechargeEnd (b : Bank) (s : State) : Host.Outcome State Fault Refusal :=
  .next <| s.outOfReset fun s =>
    let l := s.bank b
    if l.state = .precharging then
      (s.setBank b
        { l.enter .closed with
          line := { l.line with openRow := none, expired := false, timer := none } }).afterOperation b
    else s

/-- REGULAR_REFRESH_END: the debt falls by one, the pointer advances, and the Weak Row List has its report of the row and of
whether the bank is paused (R47). Then the bank makes its choice, so a spot refresh that the report has made due starts in the same
happening (R62, R80), before a BANK_PAUSE that comes together with the end can be taken; the example of R68 has that pause withdraw the
need first: the model's reading, entry 40. -/
def execRegularRefreshEnd (b : Bank) (s : State) : Host.Outcome State Fault Refusal :=
  .next <| s.outOfReset fun s =>
    let l := s.bank b
    match l.state with
    | .refreshing .regular row =>
      ((s.setBank b { l.enter .closed with debt := l.debt - 1, pointer := l.pointer + 1 }).reportRegular
        b row l.paused).afterOperation b
    | _ => s

/-- SPOT_REFRESH_END: the pending flag of the entry with that bank and row is cleared (R63). -/
def execSpotRefreshEnd (b : Bank) (s : State) : Host.Outcome State Fault Refusal :=
  .next <| s.outOfReset fun s =>
    let l := s.bank b
    match l.state with
    | .refreshing .spot row => ((s.setBank b (l.enter .closed)).reportSpot b row).afterOperation b
    | _ => s

/-- The report that a bank is ready after its warm-up: the one that leaves every present bank CLOSED makes the mode RUN
(R172). -/
def State.warmupTest (s : State) : State :=
  if s.mode = .warming ∧ s.allPresent .closed then State.reconsiderAll (State.raise { s with mode := .run } .modeDone)
  else s

/-- WARMUP_REFRESH_END: the pointer advances; below 8 the next warm-up refresh starts at once, at 8 the bank is CLOSED and
reports itself ready (R15, R172). -/
def execWarmupRefreshEnd (b : Bank) (s : State) : Host.Outcome State Fault Refusal :=
  .next <| s.outOfReset fun s =>
    let l := s.bank b
    if l.state = .warming then
      let l1 := { l with pointer := l.pointer + 1 }
      if (l.pointer + 1).toNat < 8 then s.setBank b (l1.enter .warming)
      else (s.setBank b (l1.enter .closed)).warmupTest
    else s

end Sys2Proof.Machine
end

