-- ==== Sys2Proof/Machine/HostCommands.lean ====
section
/-! DEFINITION. The host transfer commands: HOST_READ, HOST_WRITE, HOST_WRITE_BYTE and HOST_CANCEL (R97 to R113). -/

namespace Sys2Proof.Machine

/-- Whether a host read or write fails the range check of R8. -/
def State.hostRangeFails (s : State) : Bool :=
  !s.present s.regs.hbank ||
  !(decide (1 ≤ s.regs.count) && decide (s.regs.count ≤ 16)) ||
  (match s.regs.horder with
    | none => true
    | some .wrap4 => s.regs.count != 4
    | some .wrap8 => s.regs.count != 8
    | some .linear => decide (bankWords ≤ offsetOf s.regs.hrow s.regs.hcol + s.regs.count - 1))

/-- The record of a host read or write: the host address registers as they stand (R70, R97, R99, R104). -/
def HostRegs.transferRecord (r : HostRegs) (kind : Kind) (state : RecState) : Record where
  source := .host
  kind := kind
  bank := r.hbank
  row := r.hrow
  col := r.hcol
  count := r.count
  order := r.horder.getD .linear
  done := 0
  state := state
  urgent := false
  ticksLeft := none
  bypass := 0
  byteWrite := none
  status := .good
  selected := none

/-- The record of a byte write (R7, R108). -/
def HostRegs.byteRecord (r : HostRegs) : Record where
  source := .host
  kind := .byteWrite
  bank := r.hbank
  row := r.hrow
  col := r.hcol
  count := 1
  order := .linear
  done := 0
  state := .waiting
  urgent := false
  ticksLeft := none
  bypass := 0
  byteWrite := some (r.argLane, r.arg1)
  status := .good
  selected := none

/-- A record admitted at the young end of the queue (R74). -/
def State.join (s : State) (r : Record) : State := { s with queue := s.queue ++ [r] }

/-- HOST_READ (R98, R99). -/
def execHostRead (s : State) : Host.Outcome State Fault Refusal :=
  .next <| s.command [.run] .busy
    (fun s => firstFailure
      [(s.hrdPend || !s.host.readBuf.isEmpty, .busy), (s.hostRangeFails, .range), (s.queueFull, .full)])
    fun s => (s.join (s.regs.transferRecord .read .waiting)).reconsider s.regs.hbank

/-- HOST_WRITE (R98, R104): the write buffer is opened for the count, the held low byte made absent. -/
def execHostWrite (s : State) : Host.Outcome State Fault Refusal :=
  .next <| s.command [.run] .busy
    (fun s => firstFailure [(s.hwrPend, .busy), (s.hostRangeFails, .range), (s.queueFull, .full)])
    fun s =>
      { s.join (s.regs.transferRecord .write .staging) with
        host := { s.host with writeBuf := [], writeOpen := some s.regs.count, heldLow := none } }

/-- HOST_WRITE_BYTE (R98, R108). -/
def execHostWriteByte (s : State) : Host.Outcome State Fault Refusal :=
  .next <| s.command [.run] .busy
    (fun s => firstFailure [(s.hwrPend, .busy), (!s.present s.regs.hbank, .range), (s.queueFull, .full)])
    fun s => (s.join s.regs.byteRecord).reconsider s.regs.hbank

/-- A host record that HOST_CANCEL takes back: a WAITING one, or a STAGING write (R109). -/
def Record.cancellable (r : Record) : Bool :=
  r.source == .host && (r.state == .waiting || r.state == .staging)

/-- A host WRITE record that HOST_CANCEL takes back. -/
def Record.cancellableWrite (r : Record) : Bool := r.cancellable && r.kind == .write

/-- The withdrawal of every host record that has not started (R91, R110). -/
def State.withdrawHost (s : State) : State :=
  { s with
    queue := s.queue.filter fun r => !r.cancellable
    host :=
      if s.queue.any Record.cancellableWrite then
        { s.host with writeBuf := [], writeOpen := none, heldLow := none }
      else s.host }

/-- HOST_CANCEL (R109, R110): EMPTY without a host record, BUSY when every one has started. -/
def execHostCancel (s : State) : Host.Outcome State Fault Refusal :=
  .next <| s.command [.run, .holdEntry] .busy
    (fun s => firstFailure
      [(!s.queue.any (·.source == .host), .empty), (!s.queue.any Record.cancellable, .busy)])
    fun s => s.withdrawHost.afterRemoval.reconsiderAll

end Sys2Proof.Machine
end

