-- ==== Sys2Proof/Machine/RefreshCommands.lean ====
section
/-! DEFINITION. The commands of the Refresh Engine and the Weak Row List (R49 to R55, R64 to R66). -/

namespace Sys2Proof.Machine

/-- The bank that ARG0 names, if it names a present one (R49, R51, R55, R64). -/
def State.argPresent (s : State) : Option Bank := s.regs.argBank.filter s.present

/-- A state test of the present bank that ARG0 names; RANGE where it names none (R49, R51, R55). -/
def State.checkBank (s : State) (check : Bank → Option Result) : Option Result :=
  match s.argPresent with
  | none => some .range
  | some b => check b

/-- An effect on the present bank that ARG0 names. -/
def State.onBank (s : State) (effect : Bank → State) : State :=
  match s.argPresent with
  | none => s
  | some b => effect b

/-- Whether the list holds an entry of a bank and row. -/
def State.weakHolds (s : State) (b : Bank) (row : Nat) : Bool :=
  s.weak.any fun e => e.bank == b && e.row.toNat == row

/-- The entry that WEAK_ADD adds, if its operands pass the range check (R64, check 1). -/
def State.weakOperand (s : State) : Option WeakEntry :=
  match s.argPresent, s.regs.argRate with
  | some b, some rate =>
    if s.regs.argRow ≤ 1023 then some ⟨b, BitVec.ofNat 10 s.regs.argRow, rate, false, 0⟩ else none
  | _, _ => none

/-- WEAK_ADD (R64). -/
def execWeakAdd (s : State) : Host.Outcome State Fault Refusal :=
  .next <| s.command [.setup, .run] .busy
    (fun s =>
      match s.weakOperand with
      | none => some .range
      | some e => firstFailure
          [(s.weakHolds e.bank e.row.toNat, .duplicate), (decide (16 ≤ s.weak.length), .listfull)])
    fun s =>
      match s.weakOperand with
      | none => s
      | some e => { s with weak := insertWeak e s.weak }

/-- Whether an entry is the one that WEAK_REMOVE names (R65). -/
def HostRegs.namesEntry (r : HostRegs) (e : WeakEntry) : Bool :=
  r.argBank == some e.bank && r.argRow == e.row.toNat

/-- WEAK_REMOVE (R65). -/
def execWeakRemove (s : State) : Host.Outcome State Fault Refusal :=
  .next <| s.command [.setup, .run] .busy
    (fun s => firstFailure [(!s.weak.any s.regs.namesEntry, .notfound)])
    fun s => { s with weak := s.weak.filter fun e => !s.regs.namesEntry e }

/-- WEAK_CLEAR (R66). -/
def execWeakClear (s : State) : Host.Outcome State Fault Refusal :=
  .next <| s.command [.setup, .run] .busy (fun _ => none) fun s => { s with weak := [] }

/-- Whether a channel binds a bank: it is RUNNING or DRAINING with the bank in its descriptor (R49, R116). -/
def Channel.binds (x : Channel) (b : Bank) : Bool :=
  (x.state == .running || x.state == .draining) && x.bank == b

/-- BANK_PAUSE (R49, R50). -/
def execBankPause (s : State) : Host.Outcome State Fault Refusal :=
  .next <| s.command [.run] .busy
    (fun s => s.checkBank fun b => firstFailure
      [((s.bank b).paused, .busy), (Chan.all.any fun c => (s.chan c).binds b, .bound)])
    fun s => s.onBank fun b => s.setBank b { s.bank b with paused := true }

/-- BANK_RESUME (R51): the bank's needs return, and it looks again at its inputs. -/
def execBankResume (s : State) : Host.Outcome State Fault Refusal :=
  .next <| s.command [.run] .busy
    (fun s => s.checkBank fun b => firstFailure [(!(s.bank b).paused, .empty)])
    fun s => s.onBank fun b => (s.setBank b { s.bank b with paused := false }).reconsider b

/-- CLEAR_LOST (R55). -/
def execClearLost (s : State) : Host.Outcome State Fault Refusal :=
  .next <| s.command [.run, .holdEntry, .hold] .busy
    (fun s => s.checkBank fun b => firstFailure [(!(s.bank b).lost, .empty)])
    fun s => s.onBank fun b => s.setBank b { s.bank b with lost := false }

end Sys2Proof.Machine
end

