-- ==== Sys2Proof/Machine/ChannelCommands.lean ====
section
/-! DEFINITION. The channel commands: CH_START, CH_STOP and CH_ABORT (R121, R122, R129 to R131). -/

namespace Sys2Proof.Machine

/-- Whether a field of a channel's descriptor lies outside the range of R114, or its bank is absent (R121, check 3). -/
def State.descRangeFails (s : State) (x : Channel) : Bool :=
  !s.present x.bank || x.source == .nothing || decide (1023 < x.baseRow) ||
  !(decide (1 ≤ x.regionLength) && decide (x.regionLength ≤ 262144)) ||
  !(decide (1 ≤ x.burst) && decide (x.burst ≤ 32)) ||
  !(decide (1 ≤ x.allowance) && decide (x.allowance ≤ 3)) ||
  !(decide (1 ≤ x.lateLimit) && decide (x.lateLimit ≤ 15)) ||
  !(decide (1 ≤ x.scale) && decide (x.scale ≤ 32)) ||
  !(decide (1 ≤ x.bound) && decide (x.bound ≤ 256))

/-- Whether a channel's region fails (R9; R121, check 4). -/
def Channel.regionFails (x : Channel) : Bool :=
  x.regionLength % x.burst != 0 || decide (262144 < x.baseOffset + x.regionLength)

/-- A state test of the channel that ARG0 names; RANGE where it names none. -/
def State.checkChan (s : State) (check : Chan → Option Result) : Option Result :=
  match s.regs.argChan with
  | none => some .range
  | some c => check c

/-- An effect on the channel that ARG0 names. -/
def State.onChan (s : State) (effect : Chan → State) : State :=
  match s.regs.argChan with
  | none => s
  | some c => effect c

/-- A channel RUNNING afresh: counters, cursor and period count at 0 (R117, R122). -/
def Channel.cleared (x : Channel) (st : ChanState) : Channel :=
  { x with state := st, cursor := 0, late := 0, slips := 0, lastSlip := .noSlip, period := 0 }

/-- The start of a channel: its FIFO is flushed and it becomes RUNNING (R122). -/
def State.startChan (s : State) (c : Chan) : State :=
  let s1 := s.flushFifo c
  s1.setChan c ((s1.chan c).cleared .running)

/-- Whether a channel is RUNNING or DRAINING. -/
def Channel.busy (x : Channel) : Bool := x.state == .running || x.state == .draining

/-- CH_START (R121, R122). -/
def execChStart (s : State) : Host.Outcome State Fault Refusal :=
  .next <| s.command [.run] .busy
    (fun s => s.checkChan fun c => firstFailure
      [((s.chan c).busy || decide (0 < s.outstanding c), .busy),
       (s.descRangeFails (s.chan c), .range), ((s.chan c).regionFails, .region)])
    fun s => s.onChan s.startChan

/-- A channel that stops: DRAINING, or IDLE with CH_IDLE when nothing is outstanding (R129). -/
def State.stopChan (s : State) (c : Chan) : State :=
  if s.outstanding c = 0 then (s.setChan c { s.chan c with state := .idle }).raise .chIdle
  else s.setChan c { s.chan c with state := .draining }

/-- CH_STOP (R129). -/
def execChStop (s : State) : Host.Outcome State Fault Refusal :=
  .next <| s.command [.run] .busy
    (fun s => s.checkChan fun c => firstFailure
      [((s.chan c).state == .draining, .busy), ((s.chan c).state != .running, .empty)])
    fun s => s.onChan s.stopChan

/-- CH_ABORT (R131): the WAITING records of the channel are withdrawn, then it stops. -/
def execChAbort (s : State) : Host.Outcome State Fault Refusal :=
  .next <| s.command [.run] .busy
    (fun s => s.checkChan fun c => firstFailure [(!(s.chan c).busy, .empty)])
    fun s => s.onChan fun c => ((s.withdrawChan c).stopChan c).reconsiderAll

end Sys2Proof.Machine
end

