-- ==== Sys2Proof/Machine/ModeCommands.lean ====
section
/-! DEFINITION. The commands of the Mode Controller and the Fault Unit, and a code that names no command (R161, R168 to
R180, R187). -/

namespace Sys2Proof.Machine

/-- Whether an entry of the timing table lies outside its range (R170, check 2). -/
def State.timingRangeFails (s : State) : Bool :=
  !(decide (2 ≤ s.tACT) && decide (s.tACT ≤ 15)) || !(decide (2 ≤ s.tPRE) && decide (s.tPRE ≤ 15)) ||
  !(decide (4 ≤ s.tREF) && decide (s.tREF ≤ 31)) || !(decide (1 ≤ s.tWORD) && decide (s.tWORD ≤ 4)) ||
  !(decide (2 ≤ s.tRMW) && decide (s.tRMW ≤ 15)) || !decide (1 ≤ s.openLim) || !decide (64 ≤ s.ri) ||
  !(decide (1 ≤ s.pl) && decide (s.pl ≤ 8)) || !decide (1 ≤ s.settleLimit)

/-- BRINGUP (R170, R171). -/
def execBringup (s : State) : Host.Outcome State Fault Refusal :=
  .next <| s.command [.setup] .busy
    (fun s => firstFailure
      [(Bank.all.all fun b => !s.present b, .nobank),
       (s.timingRangeFails, .timing),
       (decide (s.ri < 2 * (s.tWORD + s.tRMW + s.tPRE + 2 * s.tREF)), .timing),
       (decide (s.openLim * 16 < s.tACT + s.tWORD + s.tRMW), .timing)])
    fun s => { s with mode := .warming, settle := 0, tickCount := 0 }

/-- HOLD (R177, R178): with the queue already empty the precharge-all action is present at once. -/
def execHold (s : State) : Host.Outcome State Fault Refusal :=
  .next <| s.command [.run] .busy
    (fun s => firstFailure
      [(Chan.all.any fun c => (s.chan c).busy || decide (0 < s.outstanding c), .busy),
       (Bank.all.any fun b => (s.bank b).paused, .paused)])
    fun s => State.reconsiderAll (State.afterRemoval { s with mode := .holdEntry })

/-- The start of a wake: WAKING, settle count 0, the tick timer from 0. The banks stay HELD (R21, R180). -/
def State.startWake (s : State) : State := { s with mode := .waking, settle := 0, tickCount := 0 }

/-- WAKE (R180). -/
def execWake (s : State) : Host.Outcome State Fault Refusal :=
  .next <| s.command [.hold] .busy (fun _ => none) State.startWake

/-- Whether the record in flight is a host record of a kind. -/
def State.hostInFlight (s : State) (k : Kind) : Bool :=
  s.queue.any fun r => r.state == .active && r.source == .host && r.kind == k

/-- Whether the record in flight is a channel's. -/
def State.chanInFlight (s : State) (c : Chan) : Bool :=
  s.queue.any fun r => r.state == .active && r.source == .chan c

/-- The Host Transfer Unit through a traffic reset: what the record in flight still needs waits for its removal
(R94, R111). -/
def State.resetHost (s : State) : HostUnit where
  readBuf := if s.hostInFlight .read then s.host.readBuf else []
  readLatch := none
  writeBuf := if s.hostInFlight .write then s.host.writeBuf else []
  writeOpen := if s.hostInFlight .write then s.host.writeOpen else none
  heldLow := none
  rdbad := if s.hostInFlight .read then s.host.rdbad else false

/-- One channel through a traffic reset: IDLE with its counters cleared, its lane request QUIET, and its FIFO flushed
unless its record is in flight (R94, R135, R151). -/
def State.resetChan (s : State) (c : Chan) : State :=
  let s1 := if s.chanInFlight c then s else s.flushFifo c
  s1.setChan c { (s1.chan c).cleared .idle with request := .quiet }

/-- The traffic of the part cleared: the flush of the queue (R93), the host unit, the channels and the lane (R173). -/
def State.clearTraffic (s : State) : State :=
  let s1 := ((s.resetChan .c0).resetChan .c1).resetChan .c2
  { s1 with
    mode := .quiescing
    prechargeAll := true
    queue := s.queue.filter (·.state == .active)
    host := s.resetHost
    lanePtr := .c0 }

/-- TRAFFIC_RESET (R173, R174, R176). -/
def execTrafficReset (s : State) : Host.Outcome State Fault Refusal :=
  .next <| s.command [.run] .mode (fun _ => none) fun s => s.clearTraffic.quiesceTest.reconsiderAll

/-- FAULT_POP (R161). -/
def execFaultPop (s : State) : Host.Outcome State Fault Refusal :=
  .next <| s.command [.setup, .warming, .run, .holdEntry, .hold, .waking] .busy
    (fun s => firstFailure [(s.faults.isEmpty, .empty)])
    fun s => { s with faultView := s.faults.head?, faults := s.faults.tail }

/-- A code that names no command: UNKNOWN in every mode, with CMD_REF (R187). A code that names one is another row. -/
def execUnknownCommand (code : Byte) (s : State) : Host.Outcome State Fault Refusal :=
  if namesCommand code then .refused (.codeNamesCommand code)
  else .next <| s.outOfReset fun s => s.refuse .unknown

end Sys2Proof.Machine
end

