-- ==== Sys2Proof/Machine/Resets.lean ====
section
/-! DEFINITION. Pin reset, power-on reset, the end of a reset, and the HWAKE# pin (R180 to R184). -/

namespace Sys2Proof.Machine

/-- A channel after a reset: every item at its reset value; LREQn is an input pin and keeps its level (R152; entry 19). -/
def Channel.afterReset (x : Channel) : Channel := { Channel.reset with lreq := x.lreq }

/-- Every item at its reset value (R183). The reset cause register, the resets in force, the store, the waiting commands and
the model's clock are not among the items. -/
def State.resetItems (s : State) : State :=
  { State.reset with
    por := s.por
    pin := s.pin
    heldPin := s.heldPin
    heldPor := s.heldPor
    store := s.store
    chans := s.chans.map fun _ x => x.afterReset
    pending := s.pending
    clocks := s.clocks }

/-- What the assertion of a reset does: operations are abandoned, every item takes its reset value, and the store's contents
are no longer guaranteed (R22, R183; entry 8). -/
def State.assertReset (s : State) : State := { s.resetItems with store := s.store.loseAll }

/-- Assertion of RESET# (R183). -/
def execPinReset (s : State) : Host.Outcome State Fault Refusal := .next { s.assertReset with heldPin := true }

/-- Rise of the supply (R183). -/
def execPowerOnReset (s : State) : Host.Outcome State Fault Refusal := .next { s.assertReset with heldPor := true }

/-- The end of the last reset in force: the part leaves reset in SETUP with every item at its reset value (R183), and the
reset cause flags are set (R184): the end of a pin reset sets PIN and keeps POR, and a power-on reset that it outlasted has
set POR; the end of a power-on reset sets POR and clears PIN. A reset that is not in force does not end (entry 16). -/
def execResetEnd (last : ResetKind) (s : State) : Host.Outcome State Fault Refusal :=
  .next <|
    match last with
    | .pin =>
      if s.heldPin then
        { s.resetItems with heldPin := false, heldPor := false, pin := true, por := s.por || s.heldPor }
      else s
    | .powerOn =>
      if s.heldPor then { s.resetItems with heldPin := false, heldPor := false, pin := false, por := true } else s

/-- The effects of a falling edge on HWAKE#: WAKE_PIN in every mode, and in HOLD the start of the wake (R180). -/
def State.fallHwake (s : State) : State :=
  let s1 := State.raise { s with hwakeHigh := false } .wakePin
  if s.mode = .hold then s1.startWake else s1

/-- A sample of HWAKE#: one that finds it low after one that found it high is a falling edge (R180). -/
def State.sampleHwake (s : State) (high : Bool) : State :=
  if high then { s with hwakeHigh := true } else if s.hwakeHigh then s.fallHwake else s

/-- HWAKE_FALLING_EDGE: a sample that finds HWAKE# low after one that found it high. The table has no row for the high sample, so the
row is both (R180; entry 19). -/
def execHwakeFallingEdge (s : State) : Host.Outcome State Fault Refusal :=
  .next <| s.outOfReset fun s => (s.sampleHwake true).sampleHwake false

end Sys2Proof.Machine
end

