-- ==== Sys2Proof/Machine/Ticks.lean ====
section
/-! DEFINITION. What happens when counters reach their ends: refresh ticks, the completion of SETTLE, period ticks and the
open limit (R15, R21, R25, R38 to R42, R72, R119 to R127, R168, R171, R181). A row that names a counter's end stands for
that end: it is taken whatever the counter shows (entry 2). -/

namespace Sys2Proof.Machine

/-! ### Refresh ticks -/

/-- Whether a tick reaches a bank in this state (R40). -/
def BankState.takesTick : BankState → Bool
  | .closed | .activating _ | .rowOpen | .transferring | .precharging | .refreshing _ _ => true
  | .absent | .cold | .warming | .held => false

/-- The report of a retention loss (R155). -/
def lostReport (b : Bank) : FaultRecord := ⟨.refreshLost, b, none, none, 1⟩

/-- A tick at one bank that it reaches (R40, R41): the debt rises, with PAUSE_DEBT where a paused bank's debt reaches PL; at
15 the contents of the bank are no longer guaranteed (R54; entry 9), and if LOST was clear it is set, reported and BANK_LOST
raised. -/
def State.raiseDebt (s : State) (b : Bank) : State :=
  let l := s.bank b
  if !l.state.takesTick then s
  else if l.debt < 15 then
    (s.setBank b { l with debt := l.debt + 1 }).raiseIf (l.paused && decide (l.debt + 1 = s.pl)) .pauseDebt
  else
    let s1 : State := { s with store := s.store.lose b }
    if l.lost then s1 else ((s1.setBank b { l with lost := true }).recordFault (lostReport b)).raise .bankLost

/-- A tick at the debts: in RUN, QUIESCING and HOLD_ENTRY, banks in ascending order (R39, R40, R155). -/
def State.raiseDebts (s : State) : State :=
  if s.mode = .run ∨ s.mode = .quiescing ∨ s.mode = .holdEntry then
    (((s.raiseDebt .b0).raiseDebt .b1).raiseDebt .b2).raiseDebt .b3
  else s

/-- Every COLD bank enters WARMING and begins its warm-up, with the settle count at SETTLE (R15, R171). -/
def State.startWarmup (s : State) : State :=
  { s with
    settle := s.settleLimit
    banks := s.banks.map fun _ l => if l.state = .cold then l.enter .warming else l }

/-- The lane of a bank that leaves HELD: CLOSED, an empty line, debt 0, the pointer kept (R21). -/
def BankLane.released (l : BankLane) : BankLane :=
  { l.enter .closed with line := { l.line with openRow := none, expired := false, timer := none }, debt := 0 }

/-- The end of a wake: every HELD bank enters CLOSED, the mode becomes RUN, MODE_DONE (R21, R181). -/
def State.finishWake (s : State) : State :=
  State.raise
    { s with
      settle := s.settleLimit
      mode := .run
      banks := s.banks.map fun _ l => if l.state = .held then l.released else l } .modeDone

/-- A tick at the Mode Controller: in WARMING and WAKING the settle count rises while below SETTLE, and the tick that brings it
there starts the warm-up or ends the wake (R39, R168, R171, R181). -/
def State.countSettle (s : State) : State :=
  if s.settle < s.settleLimit then
    let s1 := { s with settle := s.settle + 1 }
    match s.mode with
    | .warming => if s.settle + 1 = s.settleLimit then s.startWarmup else s1
    | .waking => if s.settle + 1 = s.settleLimit then s.finishWake else s1
    | .setup | .run | .quiescing | .holdEntry | .hold => s
  else s

/-! ### Period ticks -/

/-- The ticks left after one period tick; 0 stays 0 (R72, R123). -/
def lowerTicks (n : Nat) : Nat := n - 1

/-- Whether a record becomes late at a period tick: its ticks left pass from 1 to 0 (R123). -/
def Record.becomesLate (c : Chan) (r : Record) : Bool := r.source == .chan c && r.ticksLeft == some 1

/-- A record after a period tick of a channel: a record of the channel has its ticks left lowered, and becomes urgent when
they become 1 (R72, R123). -/
def Record.aged (c : Chan) (r : Record) : Record :=
  if r.source = .chan c then
    { r with ticksLeft := r.ticksLeft.map lowerTicks, urgent := r.urgent || r.ticksLeft == some 2 }
  else r

/-- The aging of a channel's records with its late count: in RUNNING, DRAINING and FAULTED each record that becomes late is
counted, up to 15, and LATEn raised (R123, R124). -/
def State.ageRecords (s : State) (c : Chan) : State :=
  let k := s.queue.countP (Record.becomesLate c)
  let s1 := { s with queue := s.queue.map (Record.aged c) }
  let x := s.chan c
  if x.state ≠ .idle ∧ 0 < k then (s1.setChan c { x with late := min 15 (x.late + k) }).raise (.late c) else s1

/-- The reason for which a RUNNING channel slips, if any (R126). -/
def State.slipReason (s : State) (c : Chan) : Option SlipReason :=
  let x := s.chan c
  if 3 ≤ s.outstanding c then some .backlog
  else if 8 ≤ s.queue.length then some .queueFull
  else
    let room :=
      match x.direction with
      | .fetch => 64 - x.held - x.reserved
      | .deposit => x.held - x.claimed
    if room < x.burst then some .fifo else none

/-- A slip: the burst waits for the next period tick with the same cursor (R126). -/
def State.slipChan (s : State) (c : Chan) (why : SlipReason) : State :=
  let x := s.chan c
  (s.setChan c { x with slips := min 255 (x.slips + 1), lastSlip := why }).raise (.slip c)

/-- The record of a burst (R127). -/
def Channel.burstRecord (x : Channel) (c : Chan) : Record where
  source := .chan c
  kind := match x.direction with
    | .fetch => .read
    | .deposit => .write
  bank := x.bank
  row := rowOfOffset (x.baseOffset + x.cursor)
  col := colOfOffset (x.baseOffset + x.cursor)
  count := x.burst
  order := .linear
  done := 0
  state := .waiting
  urgent := x.allowance == 1
  ticksLeft := some x.allowance
  bypass := 0
  byteWrite := none
  status := .good
  selected := none

/-- A channel after it has posted a burst: its FIFO words reserved or claimed, its cursor advanced (R127). -/
def Channel.afterPost (x : Channel) : Channel :=
  { x with
    cursor := if x.regionLength ≤ x.cursor + x.burst then 0 else x.cursor + x.burst
    reserved := x.reserved + (match x.direction with
      | .fetch => x.burst
      | .deposit => 0)
    claimed := x.claimed + (match x.direction with
      | .fetch => 0
      | .deposit => x.burst) }

/-- A burst posted (R127). -/
def State.postBurst (s : State) (c : Chan) : State :=
  { s.setChan c (s.chan c).afterPost with queue := s.queue ++ [(s.chan c).burstRecord c] }

/-- A channel that reaches its late limit: its WAITING records are withdrawn, it is FAULTED, CH_FAULT (R125). -/
def State.faultChan (s : State) (c : Chan) : State :=
  let s1 := s.withdrawChan c
  (s1.setChan c { s1.chan c with state := .faulted }).raise .chFault

/-- The third step of a period tick: a slip or a post (R126, R127). -/
def State.tryPost (s : State) (c : Chan) : State :=
  match s.slipReason c with
  | some why => s.slipChan c why
  | none => s.postBurst c

/-- A period tick of a channel: aging in every state, then in RUNNING the late-limit test, and a post or a slip
(R123 to R127). -/
def State.periodSteps (s : State) (c : Chan) : State :=
  let s1 := s.ageRecords c
  if (s1.chan c).state = .running then
    if (s1.chan c).lateLimit ≤ (s1.chan c).late then s1.faultChan c else s1.tryPost c
  else s1

/-- A source event of a channel's period generator: the period count rises, and at the product a period tick occurs in the same
happening and the count returns to 0 (R119). -/
def State.sourceEvent (s : State) (c : Chan) : State :=
  let x := s.chan c
  if x.product ≤ x.period + 1 then (s.setChan c { x with period := 0 }).periodSteps c
  else s.setChan c { x with period := x.period + 1 }

/-- The source event of a refresh tick, for a channel whose source is REFRESH (R39, R119). -/
def State.refreshEvent (s : State) (c : Chan) : State :=
  if (s.chan c).source = .refresh then s.sourceEvent c else s

/-! ### The rows -/

/-- Whether a tick occurs: that of the counter itself only where its count stands at the limit, since a count that has been discarded
after the tick fell due takes the tick with it (R38, R56, R120, R179), and that of the sender at any count (entry 2). -/
def tickOccurs (origin : TickOrigin) (limit count : Nat) : Bool :=
  match origin with
  | .counter => decide (limit ≤ count)
  | .sender => true

/-- TICK: the timer starts again from 0, and the tick is handed to the Mode Controller, the debts and the channels whose source
is REFRESH (R38, R39). Where the timer is stopped there is no tick, nor where its count was discarded after the tick fell due, as at
the entry into HOLD, also when a wake has started the timer again since (R38, R56, R179). The banks make their choices after the whole
tick, the posts of all channels included, and not between its parts: the model's choice, entry 41. -/
def execTick (t : RefreshTick) (s : State) : Host.Outcome State Fault Refusal :=
  .next <| s.outOfReset fun s =>
    if s.mode.timerRuns && tickOccurs t.origin s.ri s.tickCount then
      let s1 := { s with tickCount := 0 }
      let s2 := if s.mode = .warming ∨ s.mode = .waking then s1.countSettle else s1.raiseDebts
      (t.order.toList.foldl State.refreshEvent s2).reconsiderAll
    else s

/-- WARMUP_START: the settle count has reached SETTLE in WARMING (R15, R171; entry 13). -/
def execWarmupStart (s : State) : Host.Outcome State Fault Refusal :=
  .next <| s.outOfReset fun s => if s.mode = .warming then s.startWarmup else s

/-- WAKE_SETTLE_END: the settle count has reached SETTLE in WAKING (R181; entry 13). -/
def execWakeSettleEnd (s : State) : Host.Outcome State Fault Refusal :=
  .next <| s.outOfReset fun s => if s.mode = .waking then s.finishWake.reconsiderAll else s

/-- PERIOD_TICK: a channel's period count has reached its product (R119, R123). A count set to 0 since takes its tick with it
(R119, R120). -/
def execPeriodTick (t : PeriodTick) (s : State) : Host.Outcome State Fault Refusal :=
  .next <| s.outOfReset fun s =>
    let x := s.chan t.chan
    if tickOccurs t.origin x.product x.period then
      ((s.setChan t.chan { x with period := 0 }).periodSteps t.chan).reconsiderAll
    else s

/-- The effects of a rising edge on LSYNCn: one source event for a channel whose source is LSYNC (R119, R141). -/
def State.riseLsync (s : State) (c : Chan) : State :=
  let s1 := s.setChan c { s.chan c with lsyncHigh := true }
  if (s.chan c).source = .lsync then (s1.sourceEvent c).reconsiderAll else s1

/-- A sample of LSYNCn: one that finds it high after one that found it low is a rising edge (R141). -/
def State.sampleLsync (s : State) (c : Chan) (high : Bool) : State :=
  let x := s.chan c
  if !high then s.setChan c { x with lsyncHigh := false } else if x.lsyncHigh then s else s.riseLsync c

/-- LSYNC_RISING_EDGE: a sample that finds LSYNCn high after one that found it low. The table has no row for the low sample, so the
row is both (R141; entry 19). -/
def execLsyncRisingEdge (c : Chan) (s : State) : Host.Outcome State Fault Refusal :=
  .next <| s.outOfReset fun s => (s.sampleLsync c false).sampleLsync c true

/-- OPEN_LIMIT_EXPIRY: the open-limit timer of an open row runs out: the expired flag is set and the timer stops (R25). -/
def execOpenLimitExpiry (b : Bank) (s : State) : Host.Outcome State Fault Refusal :=
  .next <| s.outOfReset fun s =>
    let l := s.bank b
    if (l.state = .rowOpen ∨ l.state = .transferring) ∧ l.line.timer.isSome then
      (s.setBank b { l with line := { l.line with expired := true, timer := none } }).reconsider b
    else s

end Sys2Proof.Machine
end

