-- ==== Sys2Proof/Machine/Transfers.lean ====
section
/-! DEFINITION. The data path: grants, word transfers and RMW words, and what completes, suspends or removes a record
(R26 to R37, R86 to R89, R94, R103, R107, R108, R153). -/

namespace Sys2Proof.Machine

/-! ### The word -/

/-- The fault report of a parity-bad word: the word's address and the record's source (R37, R153). -/
def Record.parityReport (r : Record) : FaultRecord where
  kind :=
    match r.kind, r.source with
    | .byteWrite, _ => .parityMerge
    | _, .host => .parityRead
    | _, .chan _ => .parityFetch
  bank := r.bank
  place := some (r.nextRow, r.nextCol)
  source := some r.source
  repeats := 1

/-- A record with one word more done, and status ERROR if the word was bad (R28, R37). -/
def Record.wordDone (r : Record) (bad : Bool) : Record :=
  { r with done := r.done + 1, status := if bad then .error else r.status }

/-- A word read goes to the tail of the read buffer, or of the channel's FIFO, where its reservation falls by one (R28). -/
def State.deliver (s : State) (src : Source) (d : Data) : State :=
  match src with
  | .host => { s with host := { s.host with readBuf := s.host.readBuf ++ [d] } }
  | .chan c =>
    let x := s.chan c
    s.setChan c { x with fifo := x.fifo ++ [d], reserved := x.reserved - 1 }

/-- The word that a write puts in the store: the write-buffer word numbered by the done count, or the head of the channel's
FIFO (R28, R107, R128). -/
def State.writeWord (s : State) (r : Record) : Data :=
  match r.source with
  | .host => s.host.writeBuf[r.done]?.getD Config.noWord
  | .chan c => (s.chan c).fifo.head?.getD Config.noWord

/-- What a written word leaves: the write buffer keeps its words until completion, a FIFO loses its head word and a claim
(R28). -/
def State.takeWord (s : State) (src : Source) : State :=
  match src with
  | .host => s
  | .chan c =>
    let x := s.chan c
    s.setChan c { x with fifo := x.fifo.tail, claimed := x.claimed - 1 }

/-- The word that the store holds at a record's next address. -/
def State.wordAt (s : State) (r : Record) : StoreWord := s.store.read r.bank r.nextRow r.nextCol

/-- A word written at a record's next address. -/
def State.putWord (s : State) (r : Record) (w : StoreWord) : State :=
  { s with store := s.store.write r.bank r.nextRow r.nextCol w }

/-- Whether the word operation of a record ends on a parity-bad word (R12, R36, R37). -/
def State.wordBad (s : State) (r : Record) : Bool :=
  match r.kind with
  | .read => (s.wordAt r).bad
  | .write => false
  | .byteWrite => !(s.wordAt r).untouchedGood ((r.byteWrite.map (·.1)).getD .low)

/-- The movement of a record's next word between the store and its buffer, or the merge of a byte write (R28, R35, R36). -/
def State.moveWord (s : State) (r : Record) : State :=
  match r.kind with
  | .read => s.deliver r.source (s.wordAt r).data
  | .write => (s.putWord r (StoreWord.fresh (s.writeWord r))).takeWord r.source
  | .byteWrite =>
    match r.byteWrite with
    | none => s
    | some (lane, v) =>
      if (s.wordAt r).untouchedGood lane then
        s.putWord r (StoreWord.fresh (mergeByte (s.wordAt r).data lane v))
      else s

/-- The end of the word of the record at a place: the word has moved, a bad one is reported, the done count has risen
(R28, R35, R37, R153). -/
def State.endWord (s : State) (i : Nat) (r : Record) : State :=
  let s1 := (s.moveWord r).recordFaultIf (s.wordBad r) r.parityReport
  { s1 with queue := s1.queue.set i (r.wordDone (s.wordBad r)) }

/-! ### The end of a run -/

/-- The transfer ends: the grant is released and the bank enters OPEN (R29). -/
def State.releasePath (s : State) (b : Bank) : State := s.setBank b ((s.bank b).enter .rowOpen)

/-- A record removed from its place (R77). -/
def State.removeAt (s : State) (i : Nat) : State := { s with queue := s.queue.eraseIdx i }

/-- A DRAINING channel whose outstanding count is 0 becomes IDLE with CH_IDLE (R130). -/
def State.drainTest (s : State) (c : Chan) : State :=
  if (s.chan c).state = .draining ∧ s.outstanding c = 0 then
    (s.setChan c { s.chan c with state := .idle }).raise .chIdle
  else s

/-- What a completion hands to the record's source, on the state without the record (R89, R103, R107, R108, R154). -/
def State.completionEffects (s : State) (r : Record) : State :=
  match r.source, r.kind with
  | .host, .read =>
    (State.raise { s with host := { s.host with rdbad := s.host.rdbad || r.status == .error } } .hrdDone).raiseIf
      (r.status == .error) .hostErr
  | .host, _ =>
    (State.raise { s with host := { s.host with writeBuf := [] } } .hwrDone).raiseIf (r.status == .error) .hostErr
  | .chan c, _ => s.drainTest c

/-- Completion: the record leaves, its source has its effects, and every bank looks at the choice (R29 check 1, R89). -/
def State.complete (s : State) (i : Nat) (r : Record) : State :=
  ((((s.releasePath r.bank).removeAt i).completionEffects r).afterRemoval).reconsiderAll

/-- Suspension: the record becomes RESUMABLE and its bank makes its choice (R29 checks 2 and 3). -/
def State.suspend (s : State) (i : Nat) (r : Record) : State :=
  (State.releasePath { s with queue := s.queue.set i { r with state := .resumable } } r.bank).reconsider r.bank

/-- The next word starts over the same grant (R29 check 4). -/
def State.continueRun (s : State) (b : Bank) : State := s.setBank b ((s.bank b).enter .transferring)

/-- The state that waited for the removal of the record in flight in QUIESCING, cleared (R94, R111, R135). -/
def State.clearWaiting (s : State) (r : Record) : State :=
  match r.source, r.kind with
  | .host, .read => { s with host := { s.host with readBuf := [], rdbad := false } }
  | .host, .write => { s with host := { s.host with writeBuf := [], writeOpen := none } }
  | .host, .byteWrite => s
  | .chan c, _ => s.flushFifo c

/-- QUIESCING: the record in flight is removed after its word without completion effects (R33, R94). -/
def State.quiesceRemove (s : State) (i : Nat) (r : Record) : State :=
  ((((s.releasePath r.bank).removeAt i).clearWaiting r).afterRemoval).reconsiderAll

/-- The checks after a word, in their order (R29, R33). `r` is the record with the word done. -/
def State.afterWord (s : State) (i : Nat) (r : Record) : State :=
  if s.mode = .quiescing then s.quiesceRemove i r
  else if r.count ≤ r.done then s.complete i r
  else if some r.nextRow ≠ (s.bank r.bank).line.openRow then s.suspend i r
  else if s.stopCause r.bank then s.suspend i r
  else s.continueRun r.bank

/-- The end of the word operation in progress, if it is of the kind asked for (R29, R35). -/
def State.wordEnd (s : State) (isRmw : Bool) : State :=
  match s.inFlight with
  | none => s
  | some (i, r) =>
    if (r.kind == .byteWrite) = isRmw ∧ (s.bank r.bank).state = .transferring then
      (s.endWord i r).afterWord i (r.wordDone (s.wordBad r))
    else s

/-! ### The rows -/

/-- WORD_TRANSFER_END (R28, R29, R33, R37). -/
def execWordTransferEnd (s : State) : Host.Outcome State Fault Refusal :=
  .next <| s.outOfReset fun s => s.wordEnd false

/-- RMW_WORD_END (R35, R36). -/
def execRmwWordEnd (s : State) : Host.Outcome State Fault Refusal :=
  .next <| s.outOfReset fun s => s.wordEnd true

/-- DATA_PATH_GRANT (R26, R27, R86, R87). With the path taken or no bank READY the arbiter makes no decision. -/
def execDataPathGrant (s : State) : Host.Outcome State Fault Refusal :=
  .next <| s.outOfReset State.grant

end Sys2Proof.Machine
end

