-- ==== Sys2Proof/Machine/Views.lean ====
section
/-! DEFINITION. What the host reads: the 32 registers and the nine tables (R186, R189 to R195). Reads of registers other
than DATAL, DATAH and TDATA have no side effect and no row of the table: they are the function `readRegister`. -/

namespace Sys2Proof.Machine

/-- A number as a byte. -/
def byte (n : Nat) : Byte := BitVec.ofNat 8 n

/-- A flag as the number of its bit. -/
def bitAt (k : Nat) (v : Bool) : Nat := if v then 2 ^ k else 0

/-! ### Codes -/

/-- The mode field of STATUS (R192). -/
def Mode.code : Mode → Nat
  | .setup => 0
  | .warming => 1
  | .run => 2
  | .quiescing => 3
  | .holdEntry => 4
  | .hold => 5
  | .waking => 6

/-- The result codes (R187). -/
def Result.code : Result → Nat
  | .ok => 0
  | .busy => 1
  | .mode => 2
  | .full => 3
  | .range => 4
  | .duplicate => 5
  | .notfound => 6
  | .listfull => 7
  | .bound => 8
  | .timing => 9
  | .nobank => 10
  | .region => 11
  | .empty => 12
  | .paused => 13
  | .unknown => 14

/-- The bank states in the bank view (R194). A READY bank shows as OPEN (R13). -/
def BankState.code : BankState → Nat
  | .absent => 0
  | .cold => 1
  | .warming => 2
  | .closed => 3
  | .activating _ => 4
  | .rowOpen => 5
  | .transferring => 6
  | .precharging => 7
  | .refreshing _ _ => 8
  | .held => 9

/-- The channel states (R192). -/
def ChanState.code : ChanState → Nat
  | .idle => 0
  | .running => 1
  | .draining => 2
  | .faulted => 3

/-- The slip reasons (R194). -/
def SlipReason.code : SlipReason → Nat
  | .noSlip => 0
  | .backlog => 1
  | .queueFull => 2
  | .fifo => 3

/-- The sources (R195). -/
def Source.code : Source → Nat
  | .host => 0
  | .chan c => 1 + c.num

/-- The kinds of record (R195). -/
def Kind.code : Kind → Nat
  | .read => 0
  | .write => 1
  | .byteWrite => 2

/-- The orders (R195). -/
def Order.code : Order → Nat
  | .linear => 0
  | .wrap4 => 1
  | .wrap8 => 2

/-- The record states (R195). -/
def RecState.code : RecState → Nat
  | .staging => 0
  | .waiting => 1
  | .active => 2
  | .resumable => 3

/-- The fault kinds; 0 is NONE (R195). -/
def FaultKind.code : FaultKind → Nat
  | .parityRead => 1
  | .parityFetch => 2
  | .parityMerge => 3
  | .refreshLost => 4

/-! ### Status registers (R192) -/

/-- STATUS. -/
def State.statusByte (s : State) : Byte :=
  byte (s.mode.code + bitAt 3 s.hrdPend + bitAt 4 s.hwrPend + bitAt 5 s.host.rdbad + bitAt 6 s.queueFull)

/-- CHnST. -/
def State.chanStatusByte (s : State) (c : Chan) : Byte := byte ((s.chan c).state.code + 4 * (s.outstanding c % 4))

/-- BANKST. -/
def State.bankStatusByte (s : State) : Byte :=
  byte ((Bank.all.map fun b => bitAt b.num (s.bank b).lost + bitAt (4 + b.num) (s.bank b).paused).sum)

/-- CAUSE. -/
def State.causeByte (s : State) : Byte := byte (bitAt 0 s.por + bitAt 1 s.pin)

/-! ### Tables -/

/-- The tables behind TSEL; `unnamed` stands for the values 9 to 255 (R189). -/
inductive Table where
  | timing
  | descriptor (c : Chan)
  | bankView | weakView | faultView | queueView | counters
  | unnamed
  deriving DecidableEq, Repr

/-- The table that TSEL selects (R189). -/
def tableOf (tsel : Byte) : Table :=
  match tsel.toNat with
  | 0 => .timing
  | 1 => .descriptor .c0
  | 2 => .descriptor .c1
  | 3 => .descriptor .c2
  | 4 => .bankView
  | 5 => .weakView
  | 6 => .faultView
  | 7 => .queueView
  | 8 => .counters
  | _ => .unnamed

/-- The size of a table in bytes (R189). -/
def Table.size : Table → Nat
  | .timing => 12
  | .descriptor _ => 13
  | .bankView => 25
  | .weakView => 49
  | .faultView => 6
  | .queueView => 65
  | .counters => 27
  | .unnamed => 256

/-- A byte of a bank's six in the bank view (R194). R50 says that the bank view shows the paused flag, and R194's layout
has no bit for it: the view follows R194, and BANKST alone shows the flag (entry 36). -/
def BankLane.viewByte (l : BankLane) (field : Nat) : Byte :=
  match field with
  | 0 => byte l.state.code
  | 1 => byte ((l.line.openRow.getD 0).toNat % 256)
  | 2 => byte ((l.line.openRow.getD 0).toNat / 256 + bitAt 5 l.line.expired + bitAt 6 l.line.openPage +
      bitAt 7 l.line.openRow.isSome)
  | 3 => byte (l.pointer.toNat % 256)
  | 4 => byte (l.pointer.toNat / 256)
  | _ => byte (l.debt % 16)

/-- The bank view (R194). -/
def State.bankViewByte (s : State) (i : Nat) : Byte :=
  if i = 0 then byte s.settle
  else
    match Bank.ofNat? ((i - 1) / 6) with
    | none => 0
    | some b => (s.bank b).viewByte ((i - 1) % 6)

/-- A byte of an entry's three in the weak list view (R195). -/
def WeakEntry.viewByte (e : WeakEntry) (field : Nat) : Byte :=
  match field with
  | 0 => byte (e.row.toNat % 256)
  | 1 => byte (e.row.toNat / 256 + 4 * e.bank.num + bitAt 4 (e.rate == .four) + bitAt 5 e.pending)
  | _ => byte (e.misses % 16)

/-- The weak list view; a place at or beyond the count reads 00h (R191, R195). -/
def State.weakViewByte (s : State) (i : Nat) : Byte :=
  if i = 0 then byte s.weak.length
  else
    match s.weak[(i - 1) / 3]? with
    | none => 0
    | some e => e.viewByte ((i - 1) % 3)

/-- The fault view: with no record every byte reads 00h (R195). -/
def State.faultViewByte (s : State) (i : Nat) : Byte :=
  match s.faultView with
  | none => 0
  | some f =>
    let row := (f.place.map fun p => p.1.toNat).getD 0
    match i with
    | 0 => byte f.kind.code
    | 1 => byte (f.bank.num + 4 * ((f.source.map Source.code).getD 7) + bitAt 7 f.place.isNone)
    | 2 => byte (row % 256)
    | 3 => byte (row / 256)
    | 4 => (f.place.map fun p => p.2).getD 0
    | _ => byte f.repeats

/-- A byte of a record's eight in the queue view (R195). -/
def Record.viewByte (r : Record) (field : Nat) : Byte :=
  match field with
  | 0 => byte (r.source.code + 4 * r.kind.code + 16 * r.state.code + bitAt 6 r.urgent + bitAt 7 (r.status == .error))
  | 1 => byte (r.row.toNat % 256)
  | 2 => byte (r.row.toNat / 256 + 4 * r.bank.num + 16 * r.order.code +
      bitAt 6 ((r.byteWrite.map fun w => w.1) == some .high))
  | 3 => r.col
  | 4 => byte r.count
  | 5 => byte (r.done % 64 + 64 * (r.ticksLeft.getD 0 % 4))
  | 6 => byte (r.bypass % 16)
  | _ => (r.byteWrite.map fun w => w.2).getD 0

/-- The queue view; a place at or beyond the count reads 00h (R191, R195). -/
def State.queueViewByte (s : State) (i : Nat) : Byte :=
  if i = 0 then byte s.qlevel
  else
    match s.queue[(i - 1) / 8]? with
    | none => 0
    | some r => r.viewByte ((i - 1) % 8)

/-- A byte of a channel's nine in the channel counters table (R194). -/
def State.countersByte (s : State) (i : Nat) : Byte :=
  match Chan.ofNat? (i / 9) with
  | none => 0
  | some c =>
    let x := s.chan c
    match i % 9 with
    | 0 => byte (x.state.code + 4 * (s.outstanding c % 4) + 16 * x.lastSlip.code)
    | 1 => byte (x.cursor % 256)
    | 2 => byte (x.cursor / 256 % 256)
    | 3 => byte (x.cursor / 65536 % 4)
    | 4 => byte x.late
    | 5 => byte x.slips
    | 6 => byte x.held
    | 7 => byte x.reserved
    | _ => byte x.claimed

/-- The byte at an index of a table, as it stands; 00h at or above the table's size (R189). -/
def State.tableByte (s : State) (t : Table) (i : Nat) : Byte :=
  if t.size ≤ i then 0
  else
    match t with
    | .timing => s.timing[i]?.getD 0
    | .descriptor c => (s.chan c).descByte i
    | .bankView => s.bankViewByte i
    | .weakView => s.weakViewByte i
    | .faultView => s.faultViewByte i
    | .queueView => s.queueViewByte i
    | .counters => s.countersByte i
    | .unnamed => 0

/-- The byte that TDATA shows: the one at TIDX of the selected table (R189). -/
def State.tdataByte (s : State) : Byte := s.tableByte (tableOf s.regs.tsel) s.regs.tidx.toNat

/-! ### The register window -/

/-- The byte that a read of DATAL returns: the low byte of the read buffer's head while the buffer is released and not
empty, else 00h (R101). -/
def State.datalByte (s : State) : Byte :=
  if s.readReleased then ((s.host.readBuf.head?).map lowByte).getD 0 else 0

/-- The byte that a read of DATAH returns: the read latch, or 00h (R102). -/
def State.datahByte (s : State) : Byte := s.host.readLatch.getD 0

/-- The byte that a read cycle of a register drives on D[7:0] (R185, R186). -/
def State.readRegister (s : State) (addr : BitVec 5) : Byte :=
  match addr.toNat with
  | 0x00 => s.statusByte
  | 0x01 => byte s.regs.cmd.code
  | 0x02 => s.regs.arg0
  | 0x03 => s.regs.arg1
  | 0x04 => s.regs.arg2
  | 0x05 => s.regs.hcol
  | 0x06 => s.regs.hrowl
  | 0x07 => s.regs.hrowh
  | 0x08 => s.regs.hcount
  | 0x09 => s.datalByte
  | 0x0A => s.datahByte
  | 0x0B => byte s.host.readBuf.length
  | 0x0C => byte s.host.writeBuf.length
  | 0x0D => s.events.ev0
  | 0x0E => s.events.ev1
  | 0x0F => s.events.ev2
  | 0x10 => s.events.en0
  | 0x11 => s.events.en1
  | 0x12 => s.events.en2
  | 0x13 => s.regs.tsel
  | 0x14 => s.regs.tidx
  | 0x15 => s.tdataByte
  | 0x16 => byte s.qlevel
  | 0x17 => s.chanStatusByte .c0
  | 0x18 => s.chanStatusByte .c1
  | 0x19 => s.chanStatusByte .c2
  | 0x1A => s.bankStatusByte
  | 0x1B => byte s.faults.length
  | 0x1C => byte s.fltLost
  | 0x1D => s.causeByte
  | 0x1E => 0x82
  | _ => 0x01

/-- What a read cycle drives: the register, or nothing while a reset is in force (R183, R185). -/
def State.busRead (s : State) (addr : BitVec 5) : Option Byte :=
  if s.inReset then none else some (s.readRegister addr)

/-- What the part drives on D[7:0] for what the host bus carries: in a read cycle the register's value, and nothing in a write
cycle or without a cycle (R185). -/
def State.busDrives (s : State) (p : BusPins) : Option Byte :=
  match p.cycle with
  | some (.read addr) => s.busRead addr
  | _ => none

/-- The host bus presented to the part: the row of its cycle waits at the end of the queue. What is no cycle is not seen or is
ignored, and a read without a side effect is no row (R185, R186). -/
def State.presentBus (s : State) (p : BusPins) : State :=
  match rowOfPins p with
  | some row => { s with pending := s.pending ++ [row] }
  | none => s

end Sys2Proof.Machine
end

