-- ==== Sys2Proof/Machine/Window.lean ====
section
/-! DEFINITION. The host bus cycles that are not commands: the data port, the tables, and writes of the other registers
(R101 to R106, R159, R163, R184 to R190). A read row leaves in `hostData` what D[7:0] carries. -/

namespace Sys2Proof.Machine

/-- A read cycle: nothing is driven and nothing happens while a reset is in force (R183). -/
def State.readCycle (s : State) (addr : BitVec 5) (effect : State → State) : State :=
  { s.outOfReset effect with hostData := s.busRead addr }

/-! ### The data port -/

/-- A read of DATAL: with a word to deliver its high byte is latched, else DP_UNDER (R101). -/
def execDatalRead (s : State) : Host.Outcome State Fault Refusal :=
  .next <| s.readCycle 0x09 fun s =>
    match s.readReleased, s.host.readBuf.head? with
    | true, some d => { s with host := { s.host with readLatch := some (highByte d) } }
    | _, _ => s.raise .dpUnder

/-- A read of DATAH: with a latched byte the head word leaves, else DP_UNDER. RDBAD is cleared when the buffer empties
(R102). -/
def execDatahRead (s : State) : Host.Outcome State Fault Refusal :=
  .next <| s.readCycle 0x0A fun s =>
    if s.host.readLatch.isSome then
      { s with
        host :=
          { s.host with
            readBuf := s.host.readBuf.tail
            readLatch := none
            rdbad := s.host.rdbad && !s.host.readBuf.tail.isEmpty } }
    else s.raise .dpUnder

/-- A write of DATAL: the byte is held, in every mode (R105). One held in QUIESCING is made absent at the end of the quiesce
(`State.quiesceTest`; R111, entry 39). -/
def execDatalWrite (v : Byte) (s : State) : Host.Outcome State Fault Refusal :=
  .next <| s.outOfReset fun s => { s with host := { s.host with heldLow := some v } }

/-- The STAGING host write made WAITING by its last data word (R76, R106). -/
def State.stagingToWaiting (s : State) : State :=
  { s with queue := s.queue.map fun r => if r.source = .host ∧ r.state = .staging then { r with state := .waiting } else r }

/-- The word of a DATAH write: its low byte is the held one, or 00h (R106). -/
def HostUnit.formWord (h : HostUnit) (high : Byte) : Data := wordOf high (h.heldLow.getD 0)

/-- A write of DATAH: the word formed is appended to an open write buffer, or discarded with DP_OVER; the held low byte is
absent either way. The last word closes the buffer and makes the record WAITING (R106). -/
def execDatahWrite (v : Byte) (s : State) : Host.Outcome State Fault Refusal :=
  .next <| s.outOfReset fun s =>
    match s.host.writeOpen with
    | none => State.raise { s with host := { s.host with heldLow := none } } .dpOver
    | some n =>
      if n ≤ s.host.writeBuf.length then State.raise { s with host := { s.host with heldLow := none } } .dpOver
      else
        let buf := s.host.writeBuf ++ [s.host.formWord v]
        if n = buf.length then
          (State.stagingToWaiting
            { s with host := { s.host with writeBuf := buf, heldLow := none, writeOpen := none } }).reconsiderAll
        else { s with host := { s.host with writeBuf := buf, heldLow := none } }

/-! ### The tables -/

/-- TIDX after a TDATA access: the next index, or 0 when that reaches or passes the table's size (R189). -/
def HostRegs.advance (r : HostRegs) : HostRegs :=
  { r with tidx := if (tableOf r.tsel).size ≤ r.tidx.toNat + 1 then 0 else r.tidx + 1 }

/-- TIDX moved on by a TDATA access. -/
def State.advanceIndex (s : State) : State := { s with regs := s.regs.advance }

/-- A read of TDATA (R189). -/
def execTdataRead (s : State) : Host.Outcome State Fault Refusal :=
  .next <| s.readCycle 0x15 State.advanceIndex

/-- A bank lane after a PRESENT write: ABSENT or COLD as its bit has changed (R14), with the reset values of R43 and R23.
Its page policy stays the copy of its PAGEPOL bit (R23). -/
def BankLane.afterPresent (l : BankLane) (was is : Bool) : BankLane :=
  if was = is then l
  else { BankLane.reset with
    state := if is then .cold else .absent
    line := { BankLane.reset.line with openPage := l.line.openPage } }

/-- A byte of the timing table stored (R169, R190): PRESENT moves banks and removes the weak entries of the banks that
leave (R14, R69), PAGEPOL is copied into the open-row lines (R169). -/
def State.storeTiming (s : State) (i : Nat) (v : Byte) : State :=
  let s1 := { s with timing := s.timing.setIfInBounds i v }
  if i = 10 then
    { s1 with banks := s.banks.map fun b l => { l with line := { l.line with openPage := s1.pagePol b } } }
  else if i = 11 then
    { s1 with
      banks := s.banks.map fun b l => l.afterPresent (s.present b) (s1.present b)
      weak := s.weak.filter fun e => s1.present e.bank }
  else s1

/-- Whether the selected table takes a write at TIDX (R164, R189, R190). -/
def State.tableWritable (s : State) : Bool :=
  decide (s.regs.tidx.toNat < (tableOf s.regs.tsel).size) &&
    match tableOf s.regs.tsel with
    | .timing => s.mode == .setup
    | .descriptor c => ((s.chan c).state == .idle || (s.chan c).state == .faulted) && s.outstanding c == 0
    | _ => false

/-- The effect of a taken TDATA write on the selected table (R190). -/
def State.storeTable (s : State) (v : Byte) : State :=
  match tableOf s.regs.tsel with
  | .timing => s.storeTiming s.regs.tidx.toNat v
  | .descriptor c => s.setChan c { s.chan c with desc := (s.chan c).desc.setIfInBounds s.regs.tidx.toNat v }
  | _ => s

/-- A write of TDATA: taken or refused with TBL_REF; TIDX advances in both cases (R189, R190). -/
def execTdataWrite (v : Byte) (s : State) : Host.Outcome State Fault Refusal :=
  .next <| s.outOfReset fun s =>
    (if s.tableWritable then s.storeTable v else s.raise .tblRef).advanceIndex

/-- A write of TSEL also sets TIDX to 0 (R189). -/
def execTselWrite (v : Byte) (s : State) : Host.Outcome State Fault Refusal :=
  .next <| s.outOfReset fun s => { s with regs := { s.regs with tsel := v, tidx := 0 } }

/-! ### Other writes -/

/-- A write of EV0, EV1 or EV2 clears the flags written with a 1 (R163). -/
def execEventRegisterWrite (reg : EventReg) (v : Byte) (s : State) : Host.Outcome State Fault Refusal :=
  .next <| s.outOfReset fun s => { s with events := s.events.writeOnes reg v }

/-- A write of any value to FLTLOST clears the count (R159). -/
def execFltlostWrite (_v : Byte) (s : State) : Host.Outcome State Fault Refusal :=
  .next <| s.outOfReset fun s => { s with fltLost := 0 }

/-- A write of CAUSE clears the flags written with a 1 (R184). -/
def execCauseWrite (v : Byte) (s : State) : Host.Outcome State Fault Refusal :=
  .next <| s.outOfReset fun s => { s with por := s.por && !v.getLsbD 0, pin := s.pin && !v.getLsbD 1 }

/-- A plain register stored; a read-only register ignores the write (R185, R186). -/
def State.storeRegister (s : State) (addr : BitVec 5) (v : Byte) : State :=
  match addr.toNat with
  | 0x02 => { s with regs := { s.regs with arg0 := v } }
  | 0x03 => { s with regs := { s.regs with arg1 := v } }
  | 0x04 => { s with regs := { s.regs with arg2 := v } }
  | 0x05 => { s with regs := { s.regs with hcol := v } }
  | 0x06 => { s with regs := { s.regs with hrowl := v } }
  | 0x07 => { s with regs := { s.regs with hrowh := v } }
  | 0x08 => { s with regs := { s.regs with hcount := v } }
  | 0x10 => { s with events := { s.events with en0 := v } }
  | 0x11 => { s with events := { s.events with en1 := v } }
  | 0x12 => { s with events := { s.events with en2 := v } }
  | 0x14 => { s with regs := { s.regs with tidx := v } }
  | _ => s

/-- A write of a plain or read-only register (R186). A register whose writes are another row is refused by name. -/
def execRegisterWrite (addr : BitVec 5) (v : Byte) (s : State) : Host.Outcome State Fault Refusal :=
  if hasOwnWriteRow addr then .refused (.registerHasOwnRow addr)
  else .next <| s.outOfReset fun s => s.storeRegister addr v

end Sys2Proof.Machine
end

