-- ==== Sys2Proof/Machine/Dispatch.lean ====
section
/-! DEFINITION. The meaning of every row of the table. -/

namespace Sys2Proof.Machine

def exec (i : Instr) (s : State) : Host.Outcome State Fault Refusal :=
  match i with
  | .bringup => Sys2Proof.Machine.execBringup s
  | .hold => Sys2Proof.Machine.execHold s
  | .wake => Sys2Proof.Machine.execWake s
  | .trafficReset => Sys2Proof.Machine.execTrafficReset s
  | .hostRead => Sys2Proof.Machine.execHostRead s
  | .hostWrite => Sys2Proof.Machine.execHostWrite s
  | .hostWriteByte => Sys2Proof.Machine.execHostWriteByte s
  | .hostCancel => Sys2Proof.Machine.execHostCancel s
  | .chStart => Sys2Proof.Machine.execChStart s
  | .chStop => Sys2Proof.Machine.execChStop s
  | .chAbort => Sys2Proof.Machine.execChAbort s
  | .weakAdd => Sys2Proof.Machine.execWeakAdd s
  | .weakRemove => Sys2Proof.Machine.execWeakRemove s
  | .weakClear => Sys2Proof.Machine.execWeakClear s
  | .bankPause => Sys2Proof.Machine.execBankPause s
  | .bankResume => Sys2Proof.Machine.execBankResume s
  | .clearLost => Sys2Proof.Machine.execClearLost s
  | .faultPop => Sys2Proof.Machine.execFaultPop s
  | .unknownCommand code => Sys2Proof.Machine.execUnknownCommand code s
  | .datalRead => Sys2Proof.Machine.execDatalRead s
  | .datahRead => Sys2Proof.Machine.execDatahRead s
  | .datalWrite v => Sys2Proof.Machine.execDatalWrite v s
  | .datahWrite v => Sys2Proof.Machine.execDatahWrite v s
  | .tdataRead => Sys2Proof.Machine.execTdataRead s
  | .tdataWrite v => Sys2Proof.Machine.execTdataWrite v s
  | .tselWrite v => Sys2Proof.Machine.execTselWrite v s
  | .eventRegisterWrite reg v => Sys2Proof.Machine.execEventRegisterWrite reg v s
  | .fltlostWrite v => Sys2Proof.Machine.execFltlostWrite v s
  | .causeWrite v => Sys2Proof.Machine.execCauseWrite v s
  | .registerWrite addr v => Sys2Proof.Machine.execRegisterWrite addr v s
  | .pinReset => Sys2Proof.Machine.execPinReset s
  | .powerOnReset => Sys2Proof.Machine.execPowerOnReset s
  | .resetEnd last => Sys2Proof.Machine.execResetEnd last s
  | .hwakeFallingEdge => Sys2Proof.Machine.execHwakeFallingEdge s
  | .lreqAsserted c => Sys2Proof.Machine.execLreqAsserted c s
  | .lreqWithdrawn c => Sys2Proof.Machine.execLreqWithdrawn c s
  | .lsyncRisingEdge c => Sys2Proof.Machine.execLsyncRisingEdge c s
  | .tick t => Sys2Proof.Machine.execTick t s
  | .warmupStart => Sys2Proof.Machine.execWarmupStart s
  | .wakeSettleEnd => Sys2Proof.Machine.execWakeSettleEnd s
  | .periodTick t => Sys2Proof.Machine.execPeriodTick t s
  | .openLimitExpiry b => Sys2Proof.Machine.execOpenLimitExpiry b s
  | .activationEnd b => Sys2Proof.Machine.execActivationEnd b s
  | .prechargeEnd b => Sys2Proof.Machine.execPrechargeEnd b s
  | .regularRefreshEnd b => Sys2Proof.Machine.execRegularRefreshEnd b s
  | .spotRefreshEnd b => Sys2Proof.Machine.execSpotRefreshEnd b s
  | .warmupRefreshEnd b => Sys2Proof.Machine.execWarmupRefreshEnd b s
  | .wordTransferEnd => Sys2Proof.Machine.execWordTransferEnd s
  | .rmwWordEnd => Sys2Proof.Machine.execRmwWordEnd s
  | .dataPathGrant => Sys2Proof.Machine.execDataPathGrant s
  | .laneGrant => Sys2Proof.Machine.execLaneGrant s
  | .fetchStrobeEnd => Sys2Proof.Machine.execFetchStrobeEnd s
  | .depositStrobeEnd ld => Sys2Proof.Machine.execDepositStrobeEnd ld s

end Sys2Proof.Machine
end

