-- ==== Sys2Proof/Machine/Step.lean ====
section
/-! DEFINITION. One step: the command at the front of the queue is taken; with an empty queue the part acts on its own. -/

namespace Sys2Proof.Machine

/-- The state with the first waiting command taken off the queue. -/
def State.takePending (s : State) (rest : List Instr) : State := { s with pending := rest }

/-- One step. With nothing pending the part acts on its own (entry 4). -/
def step (s : State) : Host.Outcome State Fault Refusal :=
  match s.pending with
  | [] => .next s.idle
  | c :: rest => exec c (s.takePending rest)

/-- The state with the command that a word spells put at the front of the queue; unchanged where it spells none. -/
def State.withFetchWord (s : State) (nbits w : Nat) : State :=
  match decodeTableWord nbits w with
  | some c => { s with pending := c :: s.pending }
  | none => s

end Sys2Proof.Machine
end

