-- ==== Sys2Proof/Machine/Pins.lean ====
section
/-! DEFINITION. The output pins, as functions of the state (R3, R17, R19, R20, R27, R28, R35, R36, R141, R144, R167). The
address that an operation places on MA is given for each bank: how MA is multiplexed among banks is electrical timing, which
the spec leaves out (entry 28). -/

namespace Sys2Proof.Machine

/-- Whether a bank's row strobe BRSn# is asserted: from an activation to the precharge, and in every refresh (R3, R17,
R18, R19). -/
def State.rowStrobe (s : State) (b : Bank) : Bool :=
  match (s.bank b).state with
  | .activating _ | .rowOpen | .transferring | .refreshing _ _ | .warming => true
  | .absent | .cold | .closed | .precharging | .held => false

/-- What the operation in progress on a bank places on MA[9:0]: the row of an activation or refresh, or the column of the word,
with MA[9:8] low (R3). The column stays on MA for the whole RMW word, in its merge part and in a write part that does not
merge too: the spec does not say what MA carries there, and this is the model's choice (R3, R35, R36; entry 37). -/
def State.addressPins (s : State) (b : Bank) : Option (BitVec 10) :=
  match (s.bank b).state with
  | .activating row => some row
  | .refreshing _ row => some row
  | .warming => some (s.bank b).pointer
  | .transferring => s.inFlight.map fun p => (p.2.nextCol).setWidth 10
  | .absent | .cold | .closed | .rowOpen | .precharging | .held => none

/-- The part of the word operation in progress that the data path is in. -/
inductive WordPart where
  | read | merge | write
  deriving DecidableEq, Repr

/-- The part that a record's word operation is in, that many store clocks after its start (R28, R35). -/
def State.wordPart (s : State) (r : Record) (clock : Nat) : WordPart :=
  match r.kind with
  | .read => .read
  | .write => .write
  | .byteWrite => if clock < s.tWORD then .read else if clock < s.tWORD + s.tRMW then .merge else .write

/-- The record in flight on a TRANSFERRING bank. -/
def State.moving (s : State) : Option Record :=
  match s.inFlight with
  | none => none
  | some (_, r) => if (s.bank r.bank).state = .transferring then some r else none

/-- The part of the word operation in progress, with its record. -/
def State.movingPart (s : State) : Option (Record × WordPart) :=
  s.moving.map fun r => (r, s.wordPart r (s.bank r.bank).elapsed)

/-- Whether WST# is asserted: in the write of a word, but not in the write part of an RMW word that does not merge (R28, R35,
R36). -/
def State.writeStrobe (s : State) : Bool :=
  match s.movingPart with
  | some (r, .write) => !s.wordBad r
  | _ => false

/-- Whether CST# is asserted (R3, R28, R35, R36). That it is deasserted in the merge part of an RMW word is the model's choice:
R35 names it for the read part and R36 for the write part (entry 37). -/
def State.columnStrobe (s : State) : Bool :=
  match s.movingPart with
  | some (_, .read) => true
  | _ => s.writeStrobe

/-- What the part drives on SD and SP: the word being written with its generated parity (R10, R11, R28). That they are undriven in the
merge part of an RMW word and in a write part that does not merge is the model's choice: R28, R35 and R36 do not say (entry 37). -/
def State.storeData (s : State) : Option StoreWord :=
  match s.movingPart with
  | some (r, .write) =>
    if s.wordBad r then none
    else
      some <| StoreWord.fresh <|
        match r.kind, r.byteWrite with
        | .byteWrite, some (lane, v) => mergeByte (s.wordAt r).data lane v
        | _, _ => s.writeWord r
  | _ => none

/-- Whether a bank is in the store's self-retention condition: from HELD to the start of the wake (R20, R21). -/
def State.selfRetention (s : State) (b : Bank) : Bool := (s.bank b).state == .held && s.mode != .waking

/-- What the part drives on LD: the word of a FETCH strobe (R141, R144). -/
def State.laneData (s : State) : Option Data :=
  match s.strobe with
  | some (.fetch _ w) => some w
  | _ => none

/-- Whether LSTBn is asserted (R141). -/
def State.laneStrobe (s : State) (c : Chan) : Bool := s.strobing c

/-- Whether IRQ# is driven low; it is high while a reset is in force (R167, R183). -/
def State.irqLow (s : State) : Bool := !s.inReset && s.events.irqAsserted

end Sys2Proof.Machine
end

