-- ==== Sys2Proof/Safety.lean ====
section
/-! DEFINITION. What holds of the part at all times, by the spec's own words. Each predicate is a Bool, so that it can be decided of
a given state; the statements say that every step keeps it. -/

namespace Sys2Proof.Machine

/-- R73: at most 8 records, one host read, one host write-kind record, three records of any one channel. -/
def State.queueLimits (s : State) : Bool :=
  decide (s.queue.length ≤ 8) && decide (s.queue.countP Record.isHostRead ≤ 1) &&
  decide (s.queue.countP Record.isHostWrite ≤ 1) && Chan.all.all fun c => decide (s.outstanding c ≤ 3)

/-- Every entry of a list sorts before the later ones (R57). -/
def weakSorted : List WeakEntry → Bool
  | [] => true
  | e :: rest => rest.all e.before && weakSorted rest

/-- R57, R58: at most 16 entries in strictly ascending order of bank and row (so no two of the same bank and row), and no miss
count above 15. -/
def State.weakLimits (s : State) : Bool :=
  decide (s.weak.length ≤ 16) && weakSorted s.weak && s.weak.all fun e => decide (e.misses ≤ 15)

/-- No record of a list has the identity of a later one (R157). -/
def faultsDistinct : List FaultRecord → Bool
  | [] => true
  | f :: rest => rest.all (fun g => !f.same g) && faultsDistinct rest

/-- R157, R159: at most 8 fault records, no two of the same identity, repeat counts 1..255; FLTLOST at most 255. -/
def State.faultLimits (s : State) : Bool :=
  decide (s.faults.length ≤ 8) && faultsDistinct s.faults &&
  s.faults.all (fun f => decide (1 ≤ f.repeats) && decide (f.repeats ≤ 255)) && decide (s.fltLost ≤ 255)

/-- R43: every debt lies in 0..15. -/
def State.debtLimits (s : State) : Bool := Bank.all.all fun b => decide ((s.bank b).debt ≤ 15)

/-- R70, R87: no record's bypass count exceeds 8. -/
def State.bypassLimits (s : State) : Bool := s.queue.all fun r => decide (r.bypass ≤ 8)

/-- R117: late counts at most 15 and slip counts at most 255. -/
def State.channelLimits (s : State) : Bool :=
  Chan.all.all fun c => decide ((s.chan c).late ≤ 15) && decide ((s.chan c).slips ≤ 255)

/-! ### Modes, banks and the data path -/

/-- The bank states that a mode allows (the mode table of Controller Modes; R13, R168). -/
def Mode.allows (m : Mode) (st : BankState) : Bool :=
  match m, st with
  | _, .absent => true
  | .setup, .cold => true
  | .warming, .cold | .warming, .warming | .warming, .closed => true
  | .run, .cold | .run, .warming | .run, .held => false
  | .quiescing, .cold | .quiescing, .warming | .quiescing, .held => false
  | .holdEntry, .cold | .holdEntry, .warming => false
  | .run, _ | .quiescing, _ | .holdEntry, _ => true
  | .hold, .held | .waking, .held => true
  | _, _ => false

/-- R13, R14, R168: a bank is ABSENT exactly when its PRESENT bit is clear, and each bank is in a state that the mode allows. -/
def State.bankModes (s : State) : Bool :=
  Bank.all.all fun b => ((s.bank b).state == .absent) == !s.present b && s.mode.allows (s.bank b).state

/-- R75: what the queue may hold in a mode: nothing in SETUP, WARMING, HOLD and WAKING; the record in flight alone in QUIESCING;
host records alone in HOLD_ENTRY. -/
def State.queueModes (s : State) : Bool :=
  match s.mode with
  | .setup | .warming | .hold | .waking => s.queue.isEmpty
  | .quiescing => s.queue.all (·.state == .active)
  | .holdEntry => s.queue.all (·.source == .host)
  | .run => true

/-- R168: the precharge-all action is present through QUIESCING, in HOLD_ENTRY from the moment the queue is empty, and at no other
time. -/
def State.prechargeModes (s : State) : Bool :=
  match s.mode with
  | .quiescing => s.prechargeAll
  | .holdEntry => s.prechargeAll == s.queue.isEmpty
  | _ => !s.prechargeAll

/-- R53, R116, R183: RUNNING and DRAINING exist in RUN alone, no bank is paused in HOLD_ENTRY, HOLD or WAKING, and a part held in
reset is in SETUP. -/
def State.modeUsers (s : State) : Bool :=
  (s.mode == .run || Chan.all.all fun c => (s.chan c).state == .idle || (s.chan c).state == .faulted) &&
  (!(s.mode == .holdEntry || s.mode == .hold || s.mode == .waking) || Bank.all.all fun b => !(s.bank b).paused) &&
  (!s.inReset || s.mode == .setup)

/-- R26: at most one record is ACTIVE, and a bank is TRANSFERRING exactly while it holds the grant with that record. -/
def State.pathOk (s : State) : Bool :=
  decide (s.queue.countP (·.state == .active) ≤ 1) &&
  Bank.all.all fun b =>
    ((s.bank b).state == .transferring) == s.queue.any fun r => r.state == .active && r.bank == b

/-- Whether a bank's line holds a row: the row is there from the end of the activation to the end of the precharge (entry 11). -/
def BankState.holdsRow : BankState → Bool
  | .rowOpen | .transferring | .precharging => true
  | _ => false

/-- R23: a line is empty but from the end of an activation to the end of a precharge (for PRECHARGING entry 11), and its page policy
is the bank's PAGEPOL bit. -/
def State.linesOk (s : State) : Bool :=
  Bank.all.all fun b =>
    (s.bank b).line.openRow.isSome == (s.bank b).state.holdsRow &&
    ((s.bank b).state.holdsRow || (!(s.bank b).line.expired && (s.bank b).line.timer.isNone)) &&
    ((s.bank b).line.openPage == s.pagePol b)

/-- The modes, the banks, the queue and the data path agree. -/
def State.control (s : State) : Bool :=
  s.bankModes && s.queueModes && s.prechargeModes && s.modeUsers && s.pathOk && s.linesOk

/-! ### Records, buffers and FIFOs -/

/-- The fields of a record agree with one another (R70, R71). -/
def Record.ok (r : Record) : Bool :=
  decide (1 ≤ r.count) && decide (r.count ≤ 32) && decide (r.done < r.count) &&
  (match r.state with
    | .staging => r.done == 0 && r.source == .host && r.kind == .write
    | .waiting => r.done == 0
    | .active => true
    | .resumable => decide (1 ≤ r.done)) &&
  (match r.source with
    | .host => r.ticksLeft.isNone && !r.urgent && decide (r.count ≤ 16)
    | .chan _ => (match r.ticksLeft with
      | none => false
      | some n => decide (n ≤ 3)) && r.kind != .byteWrite) &&
  ((r.kind == .byteWrite) == r.byteWrite.isSome) && (r.kind != .byteWrite || (r.count == 1 && r.order == .linear)) &&
  (r.selected.isNone || r.state == .waiting || r.state == .resumable)

/-- Every record of the queue is as R70 and R71 say. -/
def State.recordsOk (s : State) : Bool := s.queue.all Record.ok

/-- The words that a channel's records of one kind have still to move. -/
def State.owed (s : State) (c : Chan) (k : Kind) : Nat :=
  ((s.queue.filter fun r => r.source == .chan c && r.kind == k).map fun r => r.count - r.done).sum

/-- The law of the lane FIFOs (R118), with the sums that reserved and claimed stand for: outside QUIESCING they are the words that
posted bursts have still to move, in QUIESCING at least that and nothing once the channel has no record. A RUNNING channel's
descriptor passes CH_START's checks, and its records are of the kind its direction gives. A DEPOSIT strobe has room for its
word, and its channel is DEPOSIT while it runs. -/
def State.fifoLaw (s : State) : Bool :=
  Chan.all.all fun c =>
    let x := s.chan c
    decide (x.held + x.reserved ≤ 64) && decide (x.claimed ≤ x.held) &&
    (x.direction == .fetch || x.reserved == 0) && (x.direction == .deposit || x.claimed == 0) &&
    decide (s.owed c .read ≤ x.reserved) && decide (s.owed c .write ≤ x.claimed) &&
    ((s.mode == .quiescing && 0 < s.outstanding c) || (s.owed c .read == x.reserved && s.owed c .write == x.claimed)) &&
    (!x.busy || !s.descRangeFails x) &&
    (s.queue.all fun r => r.source != .chan c || (r.kind == .read) == (x.direction == .fetch)) &&
    (s.strobe != some (.deposit c false) ||
      (decide (x.held + x.reserved < 64) && (!x.busy || x.direction == .deposit)))

/-- The host buffers follow the host records (R96, R100, R104, R106, R107). -/
def State.hostBuffers (s : State) : Bool :=
  decide (s.host.readBuf.length ≤ 16) && decide (s.host.writeBuf.length ≤ 16) &&
  (s.queue.all fun r => !r.isHostRead || s.host.readBuf.length == r.done) &&
  (s.queue.all fun r => !r.isHostWrite ||
    (match r.kind, r.state with
      | .write, .staging => s.host.writeOpen == some r.count && decide (s.host.writeBuf.length < r.count)
      | .write, _ => s.host.writeOpen.isNone && s.host.writeBuf.length == r.count
      | _, _ => s.host.writeOpen.isNone && s.host.writeBuf.isEmpty)) &&
  (s.hwrPend || (s.host.writeOpen.isNone && s.host.writeBuf.isEmpty)) &&
  (s.host.readLatch.isNone || (s.readReleased && !s.host.readBuf.isEmpty)) &&
  (!s.host.rdbad || (s.readReleased && !s.host.readBuf.isEmpty))

/-- The READY selections: one of a bank at most, of an OPEN bank, with the next word in the open row (R13, R27, R83). -/
def State.selectionsOk (s : State) : Bool :=
  (s.queue.all fun r => r.selected.isNone || ((s.bank r.bank).state == .rowOpen &&
    some r.nextRow == (s.bank r.bank).line.openRow)) &&
  Bank.all.all fun b => decide (s.queue.countP (fun r => r.bank == b && r.selected.isSome) ≤ 1)

/-- Everything above, with the store in its canonical form. -/
def State.safe (s : State) : Bool :=
  s.store.wf && s.queueLimits && s.weakLimits && s.faultLimits && s.debtLimits && s.bypassLimits && s.channelLimits &&
  s.control && s.recordsOk && s.fifoLaw && s.hostBuffers && s.selectionsOk

/-! ### What the choices of the banks may change -/

/-- A record without the model's note of its selection: the fields of R70 alone. -/
def Record.bare (r : Record) : Record := { r with selected := none }

/-- The queue without the notes of selections. -/
def State.bareQueue (s : State) : List Record := s.queue.map Record.bare

/-- The moves of a bank's lane that a choice makes: none, or the start of a precharge, an activation or a refresh, or the entry
into HELD (the bank transitions of R13; R80 to R84). Nothing else of the lane changes. -/
def BankLane.ChoiceMove (l l' : BankLane) : Prop :=
  l' = l ∨ (l.state = .rowOpen ∧ l' = l.enter .precharging) ∨
    (l.state = .closed ∧ ((∃ row, l' = l.enter (.activating row)) ∨ (∃ k row, l' = l.enter (.refreshing k row)) ∨
      l' = l.enter .held))

/-- The passages of the mode that the reports of banks and queue make: none; the precharge-all action present in HOLD_ENTRY
(R178); HOLD_ENTRY to HOLD with the timer's count discarded (R179); QUIESCING to RUN (R176) with the Host Transfer Unit as after
reset (R111). The last two raise MODE_DONE. -/
def State.ReportPassage (s t : State) : Prop :=
  (t.mode = s.mode ∧ t.prechargeAll = s.prechargeAll ∧ t.tickCount = s.tickCount ∧ t.events = s.events ∧ t.host = s.host) ∨
  (s.mode = .holdEntry ∧ t.mode = .holdEntry ∧ t.prechargeAll = true ∧ t.tickCount = s.tickCount ∧ t.events = s.events ∧
    t.host = s.host) ∨
  (s.mode = .holdEntry ∧ t.mode = .hold ∧ t.prechargeAll = false ∧ t.tickCount = 0 ∧ t.events = s.events.raise .modeDone ∧
    t.host = s.host) ∨
  (s.mode = .quiescing ∧ t.mode = .run ∧ t.prechargeAll = false ∧ t.tickCount = s.tickCount ∧
    t.events = s.events.raise .modeDone ∧ t.host = ⟨[], none, [], none, none, false⟩)

/-- `t` is `s` but for what the banks' choices and the reports to the Mode Controller change: lanes by a choice's move, the notes
of selections in the queue, and a passage of the mode. Every other field of `t` is that of `s`. -/
def State.ChoicesOf (s t : State) : Prop :=
  t = { s with
    banks := t.banks, queue := t.queue, mode := t.mode, prechargeAll := t.prechargeAll, tickCount := t.tickCount
    events := t.events, host := t.host } ∧
  t.bareQueue = s.bareQueue ∧ s.ReportPassage t ∧ ∀ b, (s.bank b).ChoiceMove (t.bank b)

/-- `t` is `s` but for the choice of one bank: the lanes and the records of the other banks stay as they are. -/
def State.ChoiceOf (s t : State) (b : Bank) : Prop :=
  s.ChoicesOf t ∧ (∀ b', b' ≠ b → t.bank b' = s.bank b') ∧
    ∀ (i : Nat) (r : Record), s.queue[i]? = some r → r.bank ≠ b → t.queue[i]? = some r

/-! ### Conditions that the commands test, as the spec words them -/

/-- The state with a result in CMD. -/
def State.withResult (s : State) (r : Result) : State := { s with regs := { s.regs with cmd := r } }

/-- The conditions of R8 on a host read or write. -/
def State.TransferInRange (s : State) : Prop :=
  s.present s.regs.hbank = true ∧ 1 ≤ s.regs.count ∧ s.regs.count ≤ 16 ∧
  ((s.regs.horder = some .linear ∧ offsetOf s.regs.hrow s.regs.hcol + s.regs.count - 1 ≤ 262143) ∨
    (s.regs.horder = some .wrap4 ∧ s.regs.count = 4) ∨ (s.regs.horder = some .wrap8 ∧ s.regs.count = 8))

/-- The ranges that R170's second check asks of the timing table. -/
def State.TimingInRange (s : State) : Prop :=
  (2 ≤ s.tACT ∧ s.tACT ≤ 15) ∧ (2 ≤ s.tPRE ∧ s.tPRE ≤ 15) ∧ (4 ≤ s.tREF ∧ s.tREF ≤ 31) ∧
  (1 ≤ s.tWORD ∧ s.tWORD ≤ 4) ∧ (2 ≤ s.tRMW ∧ s.tRMW ≤ 15) ∧ (1 ≤ s.openLim ∧ s.openLim ≤ 255) ∧
  (64 ≤ s.ri ∧ s.ri ≤ 65535) ∧ (1 ≤ s.pl ∧ s.pl ≤ 8) ∧ (1 ≤ s.settleLimit ∧ s.settleLimit ≤ 255)

/-- The ranges that CH_START's third check asks of a descriptor (R114, R121). -/
def State.DescriptorInRange (s : State) (x : Channel) : Prop :=
  s.present x.bank = true ∧ x.source ≠ .nothing ∧ x.baseRow ≤ 1023 ∧ x.baseCol ≤ 255 ∧
  (1 ≤ x.regionLength ∧ x.regionLength ≤ 262144) ∧ (1 ≤ x.burst ∧ x.burst ≤ 32) ∧ (1 ≤ x.allowance ∧ x.allowance ≤ 3) ∧
  (1 ≤ x.lateLimit ∧ x.lateLimit ≤ 15) ∧ (1 ≤ x.scale ∧ x.scale ≤ 32) ∧ (1 ≤ x.bound ∧ x.bound ≤ 256)

/-- What CH_START's fourth check asks of a region (R9, R121). -/
def Channel.RegionFits (x : Channel) : Prop :=
  x.burst ∣ x.regionLength ∧ x.baseRow * 256 + x.baseCol + x.regionLength ≤ 262144

/-- When a channel can be served on the lane (R143). -/
def Channel.CanBeServed (x : Channel) : Prop :=
  x.request = .pending ∧
  ((x.direction = .fetch ∧ 0 < x.fifo.length) ∨ (x.direction = .deposit ∧ x.state = .running ∧ x.fifo.length < 64))

/-- The answer of the commands-by-mode table of Controller Modes: `none` where the command is taken or the row is no command of the
table, else the result it is refused with. -/
def modeAnswer (i : Instr) (m : Mode) : Option Result :=
  match i, m with
  | .bringup, .setup => none
  | .bringup, .quiescing => some .busy
  | .bringup, _ => some .mode
  | .hostRead, .run | .hostWrite, .run | .hostWriteByte, .run => none
  | .hostRead, .quiescing | .hostWrite, .quiescing | .hostWriteByte, .quiescing => some .busy
  | .hostRead, _ | .hostWrite, _ | .hostWriteByte, _ => some .mode
  | .hostCancel, .run | .hostCancel, .holdEntry => none
  | .hostCancel, .quiescing => some .busy
  | .hostCancel, _ => some .mode
  | .chStart, .run | .chStop, .run | .chAbort, .run => none
  | .chStart, .quiescing | .chStop, .quiescing | .chAbort, .quiescing => some .busy
  | .chStart, _ | .chStop, _ | .chAbort, _ => some .mode
  | .weakAdd, .setup | .weakRemove, .setup | .weakClear, .setup => none
  | .weakAdd, .run | .weakRemove, .run | .weakClear, .run => none
  | .weakAdd, .quiescing | .weakRemove, .quiescing | .weakClear, .quiescing => some .busy
  | .weakAdd, _ | .weakRemove, _ | .weakClear, _ => some .mode
  | .bankPause, .run | .bankResume, .run => none
  | .bankPause, .quiescing | .bankResume, .quiescing => some .busy
  | .bankPause, _ | .bankResume, _ => some .mode
  | .clearLost, .run | .clearLost, .holdEntry | .clearLost, .hold => none
  | .clearLost, .quiescing => some .busy
  | .clearLost, _ => some .mode
  | .faultPop, .quiescing => some .busy
  | .faultPop, _ => none
  | .hold, .run => none
  | .hold, .quiescing => some .busy
  | .hold, _ => some .mode
  | .wake, .hold => none
  | .wake, .quiescing => some .busy
  | .wake, _ => some .mode
  | .trafficReset, .run => none
  | .trafficReset, _ => some .mode
  | _, _ => none

/-! ### Candidates -/

/-- Whether the record at a place of the queue is an eligible record for a bank with a property (R78, R82). -/
def State.Choosable (s : State) (b : Bank) (p : Record → Prop) (i : Nat) : Prop :=
  ∃ r, s.queue[i]? = some r ∧ r.bank = b ∧ eligible (s.queue.take i) r = true ∧ p r

/-- Whether the record at a place is the oldest such one. -/
def State.OldestChoosable (s : State) (b : Bank) (p : Record → Prop) (i : Nat) : Prop :=
  s.Choosable b p i ∧ ∀ j, j < i → ¬s.Choosable b p j

/-- Whether a record's next word lies in the open row of an OPEN bank. -/
def State.InOpenRow (s : State) (b : Bank) (r : Record) : Prop :=
  (s.bank b).state = .rowOpen ∧ (s.bank b).line.openRow = some r.nextRow

/-- The candidate of a bank by R82: the line that finds it, and its place. -/
def State.CandidateBy (s : State) (b : Bank) (line : ChoiceLine) (i : Nat) : Prop :=
  let urgentOne (r : Record) : Prop := r.urgent = true
  let passedOver (r : Record) : Prop := r.bypass = 8
  match line with
  | .urgentLine => s.OldestChoosable b urgentOne i
  | .bypassLine => (∀ j, ¬s.Choosable b urgentOne j) ∧ s.OldestChoosable b passedOver i
  | .openRowLine =>
    (∀ j, ¬s.Choosable b urgentOne j) ∧ (∀ j, ¬s.Choosable b passedOver j) ∧ s.OldestChoosable b (s.InOpenRow b) i
  | .oldestLine =>
    (∀ j, ¬s.Choosable b urgentOne j) ∧ (∀ j, ¬s.Choosable b passedOver j) ∧ (∀ j, ¬s.Choosable b (s.InOpenRow b) j) ∧
      s.OldestChoosable b (fun _ => True) i

/-- Whether the record at a place is the selection of a READY bank (R13, R83). -/
def State.SelectionAt (s : State) (i : Nat) (r : Record) : Prop :=
  s.queue[i]? = some r ∧ r.selected.isSome = true ∧ (s.bank r.bank).state = .rowOpen

/-- Whether the arbiter's decision names the selection at a place (R86): the oldest urgent selection, or without one the oldest
selection. -/
def State.GrantNames (s : State) (i : Nat) (r : Record) : Prop :=
  s.SelectionAt i r ∧
  ((r.urgent = true ∧ ∀ j q, j < i → s.SelectionAt j q → q.urgent = false) ∨
    ((∀ j q, s.SelectionAt j q → q.urgent = false) ∧ ∀ j q, j < i → ¬s.SelectionAt j q))

/-! ### Refresh needs, words in flight and the end of the quiesce -/

/-- The causes that stop a transfer and drop a selection (R30, R45, R62, R85). -/
def State.MustStop (s : State) (b : Bank) : Prop :=
  ((s.bank b).paused = false ∧ (s.pl ≤ (s.bank b).debt ∨ ∃ e ∈ s.weak, e.bank = b ∧ e.pending = true)) ∨
  (s.bank b).line.expired = true ∨ s.prechargeAll = true

/-- Whether an entry is the pending one of a bank with the lowest index (R62). -/
def State.FirstPending (s : State) (b : Bank) (e : WeakEntry) : Prop :=
  e.bank = b ∧ e.pending = true ∧
    ∃ before after, s.weak = before ++ e :: after ∧ ∀ f ∈ before, ¬(f.bank = b ∧ f.pending = true)

/-- Whether the word operation in progress is that of the record at a place of the queue (R26, R71). -/
def State.InFlightAt (s : State) (i : Nat) (r : Record) : Prop :=
  s.queue[i]? = some r ∧ r.state = .active ∧ (∀ j q, j < i → s.queue[j]? = some q → q.state ≠ .active) ∧
  (s.bank r.bank).state = .transferring

/-- The row that ends the word operation of a record (R28, R35). -/
def endRow (r : Record) : Instr := if r.kind = .byteWrite then .rmwWordEnd else .wordTransferEnd

/-- `m` is `s` with the word of the record at a place moved: a read delivers the data bits as stored, bad or not; a write takes its word
from the write buffer or the FIFO and generates the parity; a byte write merges, unless the byte it leaves is bad. A bad word is
reported with its own address and gives the record status ERROR, and the done count has risen (R28, R35, R36, R37, R107, R128, R153). -/
def State.WordMoved (s : State) (i : Nat) (r : Record) (m : State) : Prop :=
  let w := s.store.read r.bank r.nextRow r.nextCol
  let report (kind : FaultKind) : State := s.recordFault ⟨kind, r.bank, some (r.nextRow, r.nextCol), some r.source, 1⟩
  let good : List Record := s.queue.set i { r with done := r.done + 1 }
  let spoilt : List Record := s.queue.set i { r with done := r.done + 1, status := .error }
  let put (d : Data) : Store := s.store.write r.bank r.nextRow r.nextCol (StoreWord.fresh d)
  match r.kind, r.source with
  | .read, .host =>
    let host := { s.host with readBuf := s.host.readBuf ++ [w.data] }
    if w.bad then m = { report .parityRead with host := host, queue := spoilt } else m = { s with host := host, queue := good }
  | .read, .chan c =>
    let x := s.chan c
    let chans := s.chans.set c { x with fifo := x.fifo ++ [w.data], reserved := x.reserved - 1 }
    if w.bad then m = { report .parityFetch with chans := chans, queue := spoilt } else m = { s with chans := chans, queue := good }
  | .write, .host =>
    ∃ d, (∀ d', s.host.writeBuf[r.done]? = some d' → d = d') ∧ m = { s with store := put d, queue := good }
  | .write, .chan c =>
    let x := s.chan c
    ∃ d, (∀ d', x.fifo.head? = some d' → d = d') ∧
      m = { s with
        store := put d, queue := good
        chans := s.chans.set c { x with fifo := x.fifo.drop 1, claimed := x.claimed - 1 } }
  | .byteWrite, _ =>
    ∀ lane v, r.byteWrite = some (lane, v) →
      match lane with
      | .low =>
        if w.highGood then m = { s with store := put (highByte w.data ++ v), queue := good }
        else m = { report .parityMerge with queue := spoilt }
      | .high =>
        if w.lowGood then m = { s with store := put (v ++ lowByte w.data), queue := good }
        else m = { report .parityMerge with queue := spoilt }

/-- The test for the end of the quiesce (R176): the queue empty, the data path free, every present bank CLOSED. -/
def State.QuiesceOver (s : State) : Prop :=
  s.queue = [] ∧ (∀ b, (s.bank b).state ≠ .transferring) ∧ ∀ b, s.present b = true → (s.bank b).state = .closed

end Sys2Proof.Machine
end

