-- ==== Sys2Proof/WellFormed.lean ====
section
/-! DEFINITION. Which terms are of the row they are written as. -/

namespace Sys2Proof

/-- UNKNOWN_COMMAND is a code that names no command (R187), and REGISTER_WRITE is of a register without a row of its
own (R186). Every other operand is of a type that holds only what the row admits. -/
def Instr.wf : Instr → Bool
  | .unknownCommand code => !namesCommand code
  | .registerWrite addr _ => !hasOwnWriteRow addr
  | _ => true

end Sys2Proof
end

