-- ==== Sys2Proof/Certificates/Slice0/Obligations.lean ====
section
/-! DEFINITION. The statements about the model: what each row of the table does, with its frame, and what every step keeps. A frame is
written as an equation `t = { s with f := ..., ... }`: every field that it does not name is that of `s`. -/

open Sys2Proof Sys2Proof.Machine

/-! ### Steps -/

/-- A step takes the command at the front of the queue and is exec of it on the state with the queue's rest. -/
def Obligations.StepRunsTheFrontCommand : Prop :=
  ∀ (s : State) (c : Instr) (rest : List Instr), s.pending = c :: rest → step s = exec c { s with pending := rest }

/-- The rows that fall due at the next store clock: the end of each operation after its duration (R16), the open limit after OPENLIM × 16
store clocks (R25), a tick after RI (R38), a period tick of a STORE channel at its product (R119), the end of a strobe after one store clock
(R141), LREQn seen asserted (R142), and the edges that samples of LSYNCn and HWAKE# make (R141, R180). What the input pins carry and the
order of the channels in a tick are free values (entries 6, 19, 20 and 32). -/
def DueAtTheNextClock (s : State) (i : Instr) : Prop :=
  let clock := s.clocks + 1
  let merges := (s.queue.find? (·.state == .active)).map Record.kind = some .byteWrite
  match i with
  | .activationEnd b => (∃ row, (s.bank b).state = .activating row) ∧ s.tACT ≤ (s.bank b).elapsed + 1
  | .prechargeEnd b => (s.bank b).state = .precharging ∧ s.tPRE ≤ (s.bank b).elapsed + 1
  | .regularRefreshEnd b => (∃ row, (s.bank b).state = .refreshing .regular row) ∧ s.tREF ≤ (s.bank b).elapsed + 1
  | .spotRefreshEnd b => (∃ row, (s.bank b).state = .refreshing .spot row) ∧ s.tREF ≤ (s.bank b).elapsed + 1
  | .warmupRefreshEnd b => (s.bank b).state = .warming ∧ s.tREF ≤ (s.bank b).elapsed + 1
  | .wordTransferEnd => ¬merges ∧ ∃ b, (s.bank b).state = .transferring ∧ s.tWORD ≤ (s.bank b).elapsed + 1
  | .rmwWordEnd => merges ∧ ∃ b, (s.bank b).state = .transferring ∧ s.tWORD + s.tRMW + s.tWORD ≤ (s.bank b).elapsed + 1
  | .openLimitExpiry b =>
    ((s.bank b).state = .rowOpen ∨ (s.bank b).state = .transferring) ∧
      ∃ n, (s.bank b).line.timer = some n ∧ s.openLim * 16 ≤ n + 1
  | .tick ⟨order, origin⟩ => order = Config.tickOrder clock ∧ origin = .counter ∧ s.mode ≠ .setup ∧ s.mode ≠ .hold ∧ s.ri ≤ s.tickCount + 1
  | .periodTick ⟨c, origin⟩ =>
    origin = .counter ∧ (s.chan c).source = .store ∧ (s.chan c).prescale * (s.chan c).scale * (s.chan c).bound ≤ (s.chan c).period + 1
  | .lsyncRisingEdge c => (s.chan c).lsyncHigh = false ∧ Config.lsyncLevel clock c = true
  | .hwakeFallingEdge => s.hwakeHigh = true ∧ Config.hwakeLevel clock = false
  | .lreqAsserted c =>
    (s.chan c).lreq = true ∧
      ((s.chan c).request = .quiet ∨ (∃ w, s.strobe = some (.fetch c w)) ∨ ∃ f, s.strobe = some (.deposit c f))
  | .fetchStrobeEnd => ∃ c w, s.strobe = some (.fetch c w)
  | .depositStrobeEnd ld => ld = Config.laneBus clock ∧ ∃ c f, s.strobe = some (.deposit c f)
  | _ => False

/-- With nothing pending (the model's choice, entry 4): held in reset only the model's clock moves; otherwise a data-path decision to be
made becomes pending, else a lane decision, else one store clock passes, which moves every counter, takes the samples of HWAKE# and LSYNCn
that make no edge, and makes the rows pending that fall due at it and no other. Where two or more fall due, decisions of both arbiters stand
among them (entry 31); each row stands once, and their order is free (entry 5). -/
def Obligations.IdleStepActsOnItsOwn : Prop :=
  ∀ s : State, s.pending = [] →
    (s.inReset = true → step s = .next { s with clocks := s.clocks + 1 }) ∧
    (s.inReset = false →
      (s.pathFree = true → (∃ b, s.ready b = true) → step s = .next { s with pending := [.dataPathGrant] }) ∧
      ((s.pathFree = false ∨ ∀ b, s.ready b = false) →
        (s.strobe = none → (∃ c, (s.chan c).CanBeServed) → step s = .next { s with pending := [.laneGrant] }) ∧
        ((s.strobe ≠ none ∨ ∀ c, ¬(s.chan c).CanBeServed) →
          ∃ rows, step s = .next { s with
            clocks := s.clocks + 1
            hwakeHigh := s.hwakeHigh || Config.hwakeLevel (s.clocks + 1)
            tickCount := if s.mode = .setup ∨ s.mode = .hold then s.tickCount else s.tickCount + 1
            banks := s.banks.map fun _ l => { l with
              elapsed := l.elapsed + 1
              line := { l.line with
                timer := if l.state = .rowOpen ∨ l.state = .transferring then l.line.timer.map (· + 1) else l.line.timer } }
            chans := s.chans.map fun c x => { x with
              period := if x.source = .store then x.period + 1 else x.period
              lsyncHigh := x.lsyncHigh && Config.lsyncLevel (s.clocks + 1) c }
            pending := rows } ∧
            (∀ i, i ≠ .dataPathGrant → i ≠ .laneGrant → (i ∈ rows ↔ DueAtTheNextClock s i)) ∧
            ((∀ b b', (s.bank b).state = .transferring → (s.bank b').state = .transferring → b = b') →
              rows.Nodup ∧
              let several := ∃ i j, i ≠ j ∧ DueAtTheNextClock s i ∧ DueAtTheNextClock s j
              (.dataPathGrant ∈ rows ↔ several) ∧ (.laneGrant ∈ rows ↔ several)))))

/-- Every row that is well formed answers a next state, in every state, and leaves the queue of waiting commands and the model's clock as
they are; a term that is not well formed is refused. -/
def Obligations.EveryWellFormedRowAnswersNext : Prop :=
  ∀ (i : Instr) (s : State),
    (i.wf = true → ∃ t, exec i s = .next t ∧ t.pending = s.pending ∧ t.clocks = s.clocks) ∧
    (i.wf = false → ∃ why, exec i s = .refused why)

/-! ### Reset -/

/-- The values after a reset (R183's table with R13, R43, R96, R114, R117, R141, R142, R146, R162, R163, R166, R180, R186, R193), the
last samples of HWAKE# and LSYNCn among them; the reset cause register of this state is entry 1's choice and not claimed. -/
def Obligations.ResetValuesStand : Prop :=
  State.reset.mode = .setup ∧ State.reset.settle = 0 ∧ State.reset.prechargeAll = false ∧ State.reset.inReset = false ∧
  State.reset.timing = #v[0x03, 0x03, 0x06, 0x01, 0x02, 0x20, 0x86, 0x01, 0x04, 0x10, 0x00, 0x00] ∧
  State.reset.tickCount = 0 ∧ State.reset.mode.timerRuns = false ∧ State.reset.hwakeHigh = true ∧
  (∀ b, State.reset.present b = false ∧ (State.reset.bank b).state = .absent ∧
    (State.reset.bank b).line = ⟨none, false, false, none⟩ ∧ (State.reset.bank b).pointer = 0 ∧
    (State.reset.bank b).debt = 0 ∧ (State.reset.bank b).paused = false ∧ (State.reset.bank b).lost = false) ∧
  State.reset.pathFree = true ∧ State.reset.weak = [] ∧ State.reset.queue = [] ∧
  State.reset.host = ⟨[], none, [], none, none, false⟩ ∧ State.reset.hrdPend = false ∧ State.reset.hwrPend = false ∧
  State.reset.readReleased = true ∧
  (∀ c, (State.reset.chan c).state = .idle ∧ (∀ i, (State.reset.chan c).descByte i = 0) ∧
    (State.reset.chan c).cursor = 0 ∧ State.reset.outstanding c = 0 ∧ (State.reset.chan c).late = 0 ∧
    (State.reset.chan c).slips = 0 ∧ (State.reset.chan c).lastSlip = .noSlip ∧ (State.reset.chan c).period = 0 ∧
    (State.reset.chan c).fifo = [] ∧ (State.reset.chan c).reserved = 0 ∧ (State.reset.chan c).claimed = 0 ∧
    (State.reset.chan c).request = .quiet ∧ (State.reset.chan c).lsyncHigh = false) ∧
  State.reset.lanePtr = .c0 ∧ State.reset.strobe = none ∧
  State.reset.faults = [] ∧ State.reset.fltLost = 0 ∧ State.reset.faultView = none ∧
  State.reset.events = ⟨0, 0, 0, 0, 0, 0⟩ ∧ State.reset.irqLow = false ∧
  (∀ a : BitVec 5, a ≠ 0x09 → a ≠ 0x0A → a ≠ 0x15 → a ≠ 0x1D →
    State.reset.readRegister a = if a = 0x1E then 0x82 else if a = 0x1F then 0x01 else 0x00)

/-- Everything that Safety.lean says of the part at all times holds right after reset. -/
def Obligations.ResetStateIsSafe : Prop := State.reset.safe = true

/-- PIN_RESET and POWER_ON_RESET in any state and mode: every item takes its reset value (R183, R22, R152), and the store's contents are
lost (the model's reading, entry 8). The reset cause flags, the levels on LREQn (entry 19), the waiting commands and the model's clock stay. -/
def Obligations.ResetsTakeEveryItemToItsResetValue : Prop :=
  ∀ s : State,
    let r : State := { State.reset with
      por := s.por, pin := s.pin, heldPin := s.heldPin, heldPor := s.heldPor
      store := ⟨[], s.store.epoch.map fun _ n => n + 1⟩
      chans := s.chans.map fun _ x => { Channel.reset with lreq := x.lreq }
      pending := s.pending, clocks := s.clocks }
    exec .pinReset s = .next { r with heldPin := true } ∧ exec .powerOnReset s = .next { r with heldPor := true }

/-- RESET_END: the part leaves reset in SETUP with every item at its reset value (R183) and the reset cause flags as R184 says: the end of a
pin reset sets PIN and leaves POR, set too when a power-on reset was in force beneath it; the end of a power-on reset sets POR and clears
PIN. A reset that is not in force has no end (entry 16). -/
def Obligations.ResetEndSetsTheCauseFlags : Prop :=
  ∀ s : State,
    let r : State := { State.reset with
      store := s.store
      chans := s.chans.map fun _ x => { Channel.reset with lreq := x.lreq }
      pending := s.pending, clocks := s.clocks }
    (s.heldPin = true → exec (.resetEnd .pin) s = .next { r with pin := true, por := s.por || s.heldPor }) ∧
    (s.heldPor = true → exec (.resetEnd .powerOn) s = .next { r with por := true, pin := false }) ∧
    (s.heldPin = false → exec (.resetEnd .pin) s = .next s) ∧
    (s.heldPor = false → exec (.resetEnd .powerOn) s = .next s)

/-- While a pin or power-on reset is in force host bus cycles are not answered: a write is ignored, a read that is a row leaves D[7:0] undriven
and has no effect, and nothing drives D[7:0] for a read of any register, whatever the bus carries (R183). Nor has any other row an effect
but the resets, RESET_END, and the rows of LREQn, which change the level on the pin alone (R152, R183; the model's reading, entry 17). -/
def Obligations.BusCyclesAreNotAnsweredInReset : Prop :=
  ∀ (i : Instr) (s : State), i.wf = true → s.inReset = true →
    (∀ a v, cycleOfRow i = some (.write a v) → exec i s = .next s) ∧
    (∀ a, cycleOfRow i = some (.read a) → exec i s = .next { s with hostData := none }) ∧
    (∀ a, s.busRead a = none) ∧ (∀ pins, s.busDrives pins = none) ∧
    (cycleOfRow i = none → i ≠ .pinReset → i ≠ .powerOnReset → (∀ last, i ≠ .resetEnd last) → (∀ c, i ≠ .lreqAsserted c) →
      (∀ c, i ≠ .lreqWithdrawn c) → exec i s = .next s) ∧
    ∀ c, exec (.lreqAsserted c) s = .next { s with chans := s.chans.set c { s.chan c with lreq := true } } ∧
      exec (.lreqWithdrawn c) s = .next { s with chans := s.chans.set c { s.chan c with lreq := false } }

/-! ### Commands and modes -/

/-- A command is refused by the mode, with BUSY in QUIESCING and with MODE in the others, and changes nothing but CMD and CMD_REF (R187). -/
def RefusedByMode (i : Instr) (s : State) : Prop :=
  exec i s = .next { s with
    regs := { s.regs with cmd := if s.mode = .quiescing then .busy else .mode }, events := s.events.raise .cmdRef }

/-- Every command in every mode that the commands-by-mode table of Controller Modes refuses it in: the result of the table stands in CMD,
CMD_REF is raised, and nothing else changes. -/
def Obligations.CommandsAreRefusedByMode : Prop :=
  ∀ (i : Instr) (s : State) (r : Result), s.inReset = false → modeAnswer i s.mode = some r →
    exec i s = .next { s with regs := { s.regs with cmd := r }, events := s.events.raise .cmdRef }

/-- A code that names no command is refused with UNKNOWN in every mode, with CMD_REF (R187). -/
def Obligations.UnknownCodesAreRefusedInEveryMode : Prop :=
  ∀ (code : Byte) (s : State), s.inReset = false → namesCommand code = false →
    exec (.unknownCommand code) s =
      .next { s with regs := { s.regs with cmd := .unknown }, events := s.events.raise .cmdRef }

/-- BRINGUP, in SETUP alone: NOBANK, then TIMING by the ranges and the two bounds, and otherwise WARMING with the settle count and the tick timer
from 0 (R170, R171). -/
def Obligations.BringupChecksTheTimingTable : Prop :=
  ∀ s : State, s.inReset = false →
    (s.mode ≠ .setup → RefusedByMode .bringup s) ∧
    (s.mode = .setup →
      let bounds := 2 * (s.tWORD + s.tRMW + s.tPRE + 2 * s.tREF) ≤ s.ri ∧ s.tACT + s.tWORD + s.tRMW ≤ s.openLim * 16
      ((∀ b, s.present b = false) → exec .bringup s = .next (s.refuse .nobank)) ∧
      ((∃ b, s.present b = true) →
        ((¬s.TimingInRange ∨ ¬bounds) → exec .bringup s = .next (s.refuse .timing)) ∧
        (s.TimingInRange → bounds →
          exec .bringup s = .next { s.withResult .ok with mode := .warming, settle := 0, tickCount := 0 })))

/-- HOLD, in RUN alone: BUSY while a channel is RUNNING or DRAINING or has records outstanding, PAUSED while a bank is paused, and otherwise
HOLD_ENTRY, with the precharge-all action at once where the queue is empty, after which every bank makes its choice (R177, R178). -/
def Obligations.HoldEntersHoldEntry : Prop :=
  ∀ s : State, s.inReset = false →
    (s.mode ≠ .run → RefusedByMode .hold s) ∧
    (s.mode = .run →
      let busy := ∃ c, (s.chan c).state = .running ∨ (s.chan c).state = .draining ∨ 0 < s.outstanding c
      let paused := ∃ b, (s.bank b).paused = true
      (busy → exec .hold s = .next (s.refuse .busy)) ∧
      (¬busy → paused → exec .hold s = .next (s.refuse .paused)) ∧
      (¬busy → ¬paused →
        (s.queue ≠ [] →
          let u : State := { s.withResult .ok with mode := .holdEntry }
          exec .hold s = .next u.reconsiderAll ∧
            (s.prechargeAll = false → u.reconsiderAll.mode = .holdEntry ∧ u.reconsiderAll.prechargeAll = false)) ∧
        (s.queue = [] →
          exec .hold s =
            .next ({ s.withResult .ok with mode := .holdEntry, prechargeAll := true } : State).reconsiderAll)))

/-- WAKE in HOLD, and each falling edge on HWAKE#, which raises WAKE_PIN in every mode: in HOLD the wake starts, with WAKING, the settle count
0 and the tick timer from 0, and the banks stay as they are (R180, R182). The row of the edge is an edge whatever the last sample was, since
it stands for the high sample before it too (the model's choice, entry 19). -/
def Obligations.WakeStartsInHoldAlone : Prop :=
  ∀ s : State, s.inReset = false →
    (s.mode = .hold →
      exec .wake s = .next { s.withResult .ok with mode := .waking, settle := 0, tickCount := 0 } ∧
      exec .hwakeFallingEdge s = .next { s with
        hwakeHigh := false, events := s.events.raise .wakePin, mode := .waking, settle := 0, tickCount := 0 }) ∧
    (s.mode ≠ .hold →
      exec .hwakeFallingEdge s = .next { s with hwakeHigh := false, events := s.events.raise .wakePin })

/-- TRAFFIC_RESET in RUN: every record that is not ACTIVE leaves, the host unit and each channel are cleared but for what the record in flight
still needs, the lane pointer returns to 0 and every lane request to QUIET, the mode is QUIESCING with the precharge-all action, and the test
of R176 is made at once; then every bank makes its choice (R93, R94, R111, R135, R151, R173). -/
def Obligations.TrafficResetClearsTheTraffic : Prop :=
  ∀ s : State, s.inReset = false → s.mode = .run →
    let hostFlight (k : Kind) : Bool := s.queue.any fun r => r.state == .active && r.source == .host && r.kind == k
    let chanFlight (c : Chan) : Bool := s.queue.any fun r => r.state == .active && r.source == .chan c
    let u : State := { s.withResult .ok with
      mode := .quiescing, prechargeAll := true, queue := s.queue.filter (·.state == .active)
      host :=
        { readBuf := if hostFlight .read then s.host.readBuf else [], readLatch := none
          writeBuf := if hostFlight .write then s.host.writeBuf else []
          writeOpen := if hostFlight .write then s.host.writeOpen else none
          heldLow := none, rdbad := if hostFlight .read then s.host.rdbad else false }
      chans := s.chans.map fun c x =>
        let y : Channel := if chanFlight c then x else { x with fifo := [], reserved := 0, claimed := 0 }
        { y with
          state := .idle, cursor := 0, late := 0, slips := 0, lastSlip := .noSlip, period := 0, request := .quiet }
      lanePtr := .c0
      strobe := s.strobe.map fun st =>
        match st with
        | .deposit c flushed => .deposit c (flushed || !chanFlight c)
        | .fetch c w => .fetch c w }
    let t := u.quiesceTest.reconsiderAll
    exec .trafficReset s = .next t ∧ u.ChoicesOf t ∧
      (t.mode = .run ↔ u.queue = [] ∧ s.pathFree = true ∧ ∀ b, s.present b = true → (s.bank b).state = .closed)

/-! ### Host transfer commands -/

/-- HOST_READ, in RUN alone: BUSY, RANGE and FULL in this order, and otherwise one WAITING READ record of the host address registers at the young end
of the queue, after which the bank makes its choice (R8, R98, R99). -/
def Obligations.HostReadAdmitsARecord : Prop :=
  ∀ s : State, s.inReset = false →
    (s.mode ≠ .run → RefusedByMode .hostRead s) ∧
    (s.mode = .run →
      let busy := s.hrdPend = true ∨ s.host.readBuf ≠ []
      (busy → exec .hostRead s = .next (s.refuse .busy)) ∧
      (¬busy → ¬s.TransferInRange → exec .hostRead s = .next (s.refuse .range)) ∧
      (¬busy → s.TransferInRange → 8 ≤ s.queue.length → exec .hostRead s = .next (s.refuse .full)) ∧
      (¬busy → s.TransferInRange → s.queue.length < 8 → ∀ o, s.regs.horder = some o →
        let u : State := { s.withResult .ok with
          queue := s.queue ++
            [{ source := .host, kind := .read, bank := s.regs.hbank, row := s.regs.hrow, col := s.regs.hcol
               count := s.regs.count, order := o, done := 0, state := .waiting, urgent := false, ticksLeft := none
               bypass := 0, byteWrite := none, status := .good, selected := none }] }
        let t := u.reconsider s.regs.hbank
        exec .hostRead s = .next t ∧ t.hrdPend = true ∧ u.ChoiceOf t s.regs.hbank))

/-- HOST_WRITE, in RUN alone: BUSY, RANGE and FULL in this order, and otherwise one STAGING WRITE record at the young end of the queue, with the
write buffer opened for its count and the held low byte absent (R8, R98, R104). -/
def Obligations.HostWriteOpensTheWriteBuffer : Prop :=
  ∀ s : State, s.inReset = false →
    (s.mode ≠ .run → RefusedByMode .hostWrite s) ∧
    (s.mode = .run →
      (s.hwrPend = true → exec .hostWrite s = .next (s.refuse .busy)) ∧
      (s.hwrPend = false → ¬s.TransferInRange → exec .hostWrite s = .next (s.refuse .range)) ∧
      (s.hwrPend = false → s.TransferInRange → 8 ≤ s.queue.length → exec .hostWrite s = .next (s.refuse .full)) ∧
      (s.hwrPend = false → s.TransferInRange → s.queue.length < 8 → ∀ o, s.regs.horder = some o →
        exec .hostWrite s = .next { s.withResult .ok with
          queue := s.queue ++
            [{ source := .host, kind := .write, bank := s.regs.hbank, row := s.regs.hrow, col := s.regs.hcol
               count := s.regs.count, order := o, done := 0, state := .staging, urgent := false, ticksLeft := none
               bypass := 0, byteWrite := none, status := .good, selected := none }]
          host := { s.host with writeBuf := [], writeOpen := some s.regs.count, heldLow := none } }))

/-- HOST_WRITE_BYTE, in RUN alone: BUSY, RANGE for an absent bank whatever HCOUNT and HORDER hold, FULL, and otherwise one WAITING BYTE_WRITE record
of one word with the lane of ARG0 and the value of ARG1, after which the bank makes its choice (R7, R8, R98, R108). -/
def Obligations.HostWriteByteAdmitsARecord : Prop :=
  ∀ s : State, s.inReset = false →
    (s.mode ≠ .run → RefusedByMode .hostWriteByte s) ∧
    (s.mode = .run →
      (s.hwrPend = true → exec .hostWriteByte s = .next (s.refuse .busy)) ∧
      (s.hwrPend = false → s.present s.regs.hbank = false → exec .hostWriteByte s = .next (s.refuse .range)) ∧
      (s.hwrPend = false → s.present s.regs.hbank = true → 8 ≤ s.queue.length →
        exec .hostWriteByte s = .next (s.refuse .full)) ∧
      (s.hwrPend = false → s.present s.regs.hbank = true → s.queue.length < 8 →
        let u : State := { s.withResult .ok with
          queue := s.queue ++
            [{ source := .host, kind := .byteWrite, bank := s.regs.hbank, row := s.regs.hrow, col := s.regs.hcol
               count := 1, order := .linear, done := 0, state := .waiting, urgent := false, ticksLeft := none
               bypass := 0, byteWrite := some (if s.regs.arg0.getLsbD 0 then .high else .low, s.regs.arg1)
               status := .good, selected := none }] }
        let t := u.reconsider s.regs.hbank
        exec .hostWriteByte s = .next t ∧ t.hwrPend = true ∧ u.ChoiceOf t s.regs.hbank))

/-- HOST_CANCEL, in RUN and HOLD_ENTRY alone: EMPTY without a host record, BUSY when every host record has started, and otherwise every WAITING or
STAGING host record leaves; with a withdrawn WRITE the write buffer is emptied and closed and the held low byte made absent. In HOLD_ENTRY a
queue left empty is reported at once, with the precharge-all action; then every bank makes its choice (R91, R95, R109, R110). -/
def Obligations.HostCancelWithdrawsWhatHasNotStarted : Prop :=
  ∀ s : State, s.inReset = false →
    (¬(s.mode = .run ∨ s.mode = .holdEntry) → RefusedByMode .hostCancel s) ∧
    ((s.mode = .run ∨ s.mode = .holdEntry) →
      let fresh (r : Record) : Bool := r.source == .host && (r.state == .waiting || r.state == .staging)
      ((∀ r ∈ s.queue, r.source ≠ .host) → exec .hostCancel s = .next (s.refuse .empty)) ∧
      ((∃ r ∈ s.queue, r.source = .host) → (∀ r ∈ s.queue, fresh r = false) →
        exec .hostCancel s = .next (s.refuse .busy)) ∧
      ((∃ r ∈ s.queue, fresh r = true) →
        let kept := s.queue.filter fun r => !fresh r
        let u : State := { s.withResult .ok with
          queue := kept
          prechargeAll := if s.mode = .holdEntry ∧ kept = [] then true else s.prechargeAll
          host :=
            if s.queue.any fun r => fresh r && r.kind == .write then
              { s.host with writeBuf := [], writeOpen := none, heldLow := none }
            else s.host }
        let t := u.reconsiderAll
        exec .hostCancel s = .next t ∧ u.ChoicesOf t ∧
          (s.mode = .holdEntry → t.queue = [] → t.prechargeAll = true ∨ t.mode = .hold)))

/-! ### Channel commands -/

/-- CH_START, in RUN alone: RANGE, BUSY, RANGE and REGION in this order, and otherwise the channel is RUNNING with its FIFO flushed and its counts
and cursor at 0, and nothing else changes but that a DEPOSIT strobe of the channel loses its word (R121, R122; the strobe is the model's
reading, entry 30). -/
def Obligations.ChannelStartRunsTheChannel : Prop :=
  ∀ s : State, s.inReset = false →
    (s.mode ≠ .run → RefusedByMode .chStart s) ∧
    (s.mode = .run →
      (s.regs.argChan = none → exec .chStart s = .next (s.refuse .range)) ∧
      ∀ c, s.regs.argChan = some c →
        let x := s.chan c
        let busy := x.state = .running ∨ x.state = .draining ∨ 0 < s.outstanding c
        (busy → exec .chStart s = .next (s.refuse .busy)) ∧
        (¬busy → ¬s.DescriptorInRange x → exec .chStart s = .next (s.refuse .range)) ∧
        (¬busy → s.DescriptorInRange x → ¬x.RegionFits → exec .chStart s = .next (s.refuse .region)) ∧
        (¬busy → s.DescriptorInRange x → x.RegionFits →
          exec .chStart s = .next { s.withResult .ok with
            chans := s.chans.set c { x with
              state := .running, fifo := [], reserved := 0, claimed := 0, cursor := 0, late := 0, slips := 0
              lastSlip := .noSlip, period := 0 }
            strobe := s.strobe.map (Strobe.afterFlush c) }))

/-- CH_STOP, in RUN alone: RANGE, BUSY when DRAINING, EMPTY when IDLE or FAULTED, and otherwise DRAINING with records outstanding and IDLE with
CH_IDLE without (R129). -/
def Obligations.ChannelStopDrains : Prop :=
  ∀ s : State, s.inReset = false →
    (s.mode ≠ .run → RefusedByMode .chStop s) ∧
    (s.mode = .run →
      (s.regs.argChan = none → exec .chStop s = .next (s.refuse .range)) ∧
      ∀ c, s.regs.argChan = some c →
        let x := s.chan c
        (x.state = .draining → exec .chStop s = .next (s.refuse .busy)) ∧
        (x.state = .idle ∨ x.state = .faulted → exec .chStop s = .next (s.refuse .empty)) ∧
        (x.state = .running → 0 < s.outstanding c →
          exec .chStop s = .next { s.withResult .ok with chans := s.chans.set c { x with state := .draining } }) ∧
        (x.state = .running → s.outstanding c = 0 →
          exec .chStop s = .next { s.withResult .ok with
            chans := s.chans.set c { x with state := .idle }, events := s.events.raise .chIdle }))

/-- CH_ABORT, in RUN alone: RANGE, EMPTY when IDLE or FAULTED, and otherwise every WAITING record of the channel leaves, its reservation or claim is
released, and the channel is DRAINING, or IDLE with CH_IDLE when nothing of it stays in the queue; then every bank makes its choice
(R91, R131). -/
def Obligations.ChannelAbortWithdrawsWaitingRecords : Prop :=
  ∀ s : State, s.inReset = false →
    (s.mode ≠ .run → RefusedByMode .chAbort s) ∧
    (s.mode = .run →
      (s.regs.argChan = none → exec .chAbort s = .next (s.refuse .range)) ∧
      ∀ c, s.regs.argChan = some c →
        let x := s.chan c
        let gone := s.queue.filter fun r => r.source == .chan c && r.state == .waiting
        let kept := s.queue.filter fun r => !(r.source == .chan c && r.state == .waiting)
        let words (k : Kind) : Nat := ((gone.filter (·.kind == k)).map Record.count).sum
        let y : Channel := { x with reserved := x.reserved - words .read, claimed := x.claimed - words .write }
        (x.state = .idle ∨ x.state = .faulted → exec .chAbort s = .next (s.refuse .empty)) ∧
        (x.state = .running ∨ x.state = .draining →
          ((∃ r ∈ kept, r.source = .chan c) →
            let u : State := { s.withResult .ok with queue := kept, chans := s.chans.set c { y with state := .draining } }
            exec .chAbort s = .next u.reconsiderAll ∧ u.ChoicesOf u.reconsiderAll) ∧
          ((∀ r ∈ kept, r.source ≠ .chan c) →
            let u : State := { s.withResult .ok with
              queue := kept, chans := s.chans.set c { y with state := .idle }, events := s.events.raise .chIdle }
            exec .chAbort s = .next u.reconsiderAll ∧ u.ChoicesOf u.reconsiderAll)))

/-! ### Refresh and weak row commands -/

/-- WEAK_ADD, in SETUP and RUN alone: RANGE, DUPLICATE and LISTFULL in this order, and otherwise the new entry, with no spot pending and miss count
0, stands where the order of bank and row puts it, and every other entry keeps its place around it (R64). -/
def Obligations.WeakAddInsertsInOrder : Prop :=
  ∀ s : State, s.inReset = false →
    (¬(s.mode = .setup ∨ s.mode = .run) → RefusedByMode .weakAdd s) ∧
    ((s.mode = .setup ∨ s.mode = .run) →
      ((∀ b, s.regs.argBank = some b → s.present b = false) ∨ 1023 < s.regs.argRow ∨ s.regs.argRate = none →
        exec .weakAdd s = .next (s.refuse .range)) ∧
      ∀ b rate, s.regs.argBank = some b → s.present b = true → s.regs.argRow ≤ 1023 → s.regs.argRate = some rate →
        let held := ∃ e ∈ s.weak, e.bank = b ∧ e.row.toNat = s.regs.argRow
        (held → exec .weakAdd s = .next (s.refuse .duplicate)) ∧
        (¬held → 16 ≤ s.weak.length → exec .weakAdd s = .next (s.refuse .listfull)) ∧
        (¬held → s.weak.length < 16 →
          ∃ before after : List WeakEntry, s.weak = before ++ after ∧
            exec .weakAdd s = .next { s.withResult .ok with
              weak := before ++ ⟨b, BitVec.ofNat 10 s.regs.argRow, rate, false, 0⟩ :: after } ∧
            (∀ e ∈ before, ¬(b.num < e.bank.num ∨ (b = e.bank ∧ s.regs.argRow < e.row.toNat))) ∧
            ∀ e, after.head? = some e → b.num < e.bank.num ∨ (b = e.bank ∧ s.regs.argRow < e.row.toNat)))

/-- WEAK_REMOVE, in SETUP and RUN alone: NOTFOUND where no entry holds the bank and row, and otherwise that entry alone leaves the list; WEAK_CLEAR
empties the list, also an empty one. Nothing else changes (R65, R66). -/
def Obligations.WeakRemoveAndClearEditTheListAlone : Prop :=
  ∀ s : State, s.inReset = false →
    (¬(s.mode = .setup ∨ s.mode = .run) → RefusedByMode .weakRemove s ∧ RefusedByMode .weakClear s) ∧
    ((s.mode = .setup ∨ s.mode = .run) →
      let named (e : WeakEntry) : Prop := s.regs.argBank = some e.bank ∧ s.regs.argRow = e.row.toNat
      ((∀ e ∈ s.weak, ¬named e) → exec .weakRemove s = .next (s.refuse .notfound)) ∧
      ((∃ e ∈ s.weak, named e) →
        ∃ l, exec .weakRemove s = .next { s.withResult .ok with weak := l } ∧ l.Sublist s.weak ∧
          ∀ e, e ∈ l ↔ e ∈ s.weak ∧ ¬named e) ∧
      exec .weakClear s = .next { s.withResult .ok with weak := [] })

/-- BANK_PAUSE and BANK_RESUME, in RUN alone: RANGE, then BUSY and BOUND, or EMPTY; and otherwise the paused flag is set, or cleared with the bank's
choice made again (R49 to R52). CLEAR_LOST, in RUN, HOLD_ENTRY and HOLD alone: RANGE, EMPTY, and otherwise the LOST flag alone is cleared; debt,
pointer, paused flag, fault list and BANK_LOST stay (R55). -/
def Obligations.BankCommandsSetAndClearTheirFlag : Prop :=
  ∀ s : State, s.inReset = false →
    (¬(s.mode = .run ∨ s.mode = .holdEntry ∨ s.mode = .hold) → RefusedByMode .clearLost s) ∧
    (s.mode ≠ .run → RefusedByMode .bankPause s ∧ RefusedByMode .bankResume s) ∧
    (s.mode = .run ∨ s.mode = .holdEntry ∨ s.mode = .hold →
      ((∀ b, s.regs.argBank = some b → s.present b = false) → exec .clearLost s = .next (s.refuse .range)) ∧
      ∀ b, s.regs.argBank = some b → s.present b = true →
        ((s.bank b).lost = false → exec .clearLost s = .next (s.refuse .empty)) ∧
        ((s.bank b).lost = true →
          exec .clearLost s = .next { s.withResult .ok with banks := s.banks.set b { s.bank b with lost := false } })) ∧
    (s.mode = .run →
      ((∀ b, s.regs.argBank = some b → s.present b = false) →
        exec .bankPause s = .next (s.refuse .range) ∧ exec .bankResume s = .next (s.refuse .range)) ∧
      ∀ b, s.regs.argBank = some b → s.present b = true →
        let l := s.bank b
        let bound := ∃ c, ((s.chan c).state = .running ∨ (s.chan c).state = .draining) ∧ (s.chan c).bank = b
        (l.paused = true → exec .bankPause s = .next (s.refuse .busy)) ∧
        (l.paused = false → bound → exec .bankPause s = .next (s.refuse .bound)) ∧
        (l.paused = false → ¬bound →
          exec .bankPause s = .next { s.withResult .ok with banks := s.banks.set b { l with paused := true } }) ∧
        (l.paused = false → exec .bankResume s = .next (s.refuse .empty)) ∧
        (l.paused = true →
          let u : State := { s.withResult .ok with banks := s.banks.set b { l with paused := false } }
          exec .bankResume s = .next (u.reconsider b) ∧ u.ChoiceOf (u.reconsider b) b))

/-- FAULT_POP: BUSY in QUIESCING; elsewhere EMPTY with nothing changed but the refusal, and otherwise the oldest record moves whole into the fault view
(R161). -/
def Obligations.FaultPopMovesTheOldestRecord : Prop :=
  ∀ s : State, s.inReset = false →
    (s.mode = .quiescing → RefusedByMode .faultPop s) ∧
    (s.mode ≠ .quiescing →
      (s.faults = [] → exec .faultPop s = .next (s.refuse .empty)) ∧
      ∀ f rest, s.faults = f :: rest →
        exec .faultPop s = .next { s.withResult .ok with faultView := some f, faults := rest })

/-! ### The data port and the register window -/

/-- Reads of DATAL and DATAH (R101, R102): what D[7:0] carries, what the read latch and the read buffer become, and DP_UNDER. -/
def Obligations.DataPortReadsDeliverWords : Prop :=
  ∀ s : State, s.inReset = false →
    (∀ d rest, s.hrdPend = false → s.host.readBuf = d :: rest →
      exec .datalRead s = .next { s with
        hostData := some (lowByte d), host := { s.host with readLatch := some (highByte d) } }) ∧
    (s.hrdPend = true ∨ s.host.readBuf = [] →
      exec .datalRead s = .next { s with hostData := some 0, events := s.events.raise .dpUnder }) ∧
    (∀ v, s.host.readLatch = some v →
      exec .datahRead s = .next { s with
        hostData := some v
        host := { s.host with
          readBuf := s.host.readBuf.drop 1, readLatch := none
          rdbad := if s.host.readBuf.length ≤ 1 then false else s.host.rdbad } }) ∧
    (s.host.readLatch = none →
      exec .datahRead s = .next { s with hostData := some 0, events := s.events.raise .dpUnder })

/-- Writes of DATAL and DATAH (R105, R106): the held low byte; the word formed, appended while the buffer is open and below its count, else
discarded with DP_OVER; and the count-th word, which closes the buffer and makes the STAGING record WAITING, after which every bank makes its
choice. -/
def Obligations.DataPortWritesFormWords : Prop :=
  ∀ (s : State) (v : Byte), s.inReset = false →
    let word : Data := v ++ s.host.heldLow.getD 0
    exec (.datalWrite v) s = .next { s with host := { s.host with heldLow := some v } } ∧
    (s.host.writeOpen = none ∨ (∃ n, s.host.writeOpen = some n ∧ n ≤ s.host.writeBuf.length) →
      exec (.datahWrite v) s = .next { s with
        host := { s.host with heldLow := none }, events := s.events.raise .dpOver }) ∧
    (∀ n, s.host.writeOpen = some n → s.host.writeBuf.length + 1 < n →
      exec (.datahWrite v) s = .next { s with
        host := { s.host with heldLow := none, writeBuf := s.host.writeBuf ++ [word] } }) ∧
    (∀ n, s.host.writeOpen = some n → s.host.writeBuf.length + 1 = n →
      let u : State := { s with
        host := { s.host with heldLow := none, writeBuf := s.host.writeBuf ++ [word], writeOpen := none }
        queue := s.queue.map fun r =>
          if r.source = .host ∧ r.state = .staging then { r with state := .waiting } else r }
      exec (.datahWrite v) s = .next u.reconsiderAll ∧ u.ChoicesOf u.reconsiderAll)

/-- The size of the table that a TSEL value selects (R189). -/
def tableSizeOf (tsel : Byte) : Nat :=
  match tsel.toNat with
  | 0 => 12
  | 1 => 13
  | 2 => 13
  | 3 => 13
  | 4 => 25
  | 5 => 49
  | 6 => 6
  | 7 => 65
  | 8 => 27
  | _ => 256

/-- TIDX after a TDATA access (R189). -/
def nextIndex (tsel tidx : Byte) : Byte := if tableSizeOf tsel ≤ tidx.toNat + 1 then 0 else tidx + 1

/-- A flag as one bit of a layout. -/
def flagBit (v : Prop) [Decidable v] : BitVec 1 := BitVec.ofBool (decide v)

/-- A source in the views: 0 HOST, 1 CH0, 2 CH1, 3 CH2 (R195). -/
def sourceCode : Source → Nat
  | .host => 0
  | .chan .c0 => 1
  | .chan .c1 => 2
  | .chan .c2 => 3

/-- The three bytes of a place of the weak list view (R195). -/
def weakPlace (e : WeakEntry) : List Byte :=
  [e.row.extractLsb' 0 8,
    (0 : BitVec 2) ++ flagBit (e.pending = true) ++ flagBit (e.rate = .four) ++ BitVec.ofNat 2 e.bank.num ++ e.row.extractLsb' 8 2,
    (0 : BitVec 4) ++ BitVec.ofNat 4 e.misses]

/-- The six bytes of the fault view with a record (R195). -/
def faultPlace (f : FaultRecord) : List Byte :=
  let kind : Byte := match f.kind with
    | .parityRead => 1
    | .parityFetch => 2
    | .parityMerge => 3
    | .refreshLost => 4
  let source : Nat := match f.source with
    | some src => sourceCode src
    | none => 7
  let place : List Byte := match f.place with
    | some (row, col) => [row.extractLsb' 0 8, (0 : BitVec 6) ++ row.extractLsb' 8 2, col]
    | none => [0, 0, 0]
  [kind, flagBit (f.place = none) ++ (0 : BitVec 2) ++ BitVec.ofNat 3 source ++ BitVec.ofNat 2 f.bank.num] ++ place ++
    [BitVec.ofNat 8 f.repeats]

/-- The eight bytes of a place of the queue view (R195). -/
def queuePlace (r : Record) : List Byte :=
  let state : BitVec 2 := match r.state with
    | .staging => 0
    | .waiting => 1
    | .active => 2
    | .resumable => 3
  let kind : BitVec 2 := match r.kind with
    | .read => 0
    | .write => 1
    | .byteWrite => 2
  let order : BitVec 2 := match r.order with
    | .linear => 0
    | .wrap4 => 1
    | .wrap8 => 2
  let lane : BitVec 1 := match r.byteWrite with
    | some (.high, _) => 1
    | _ => 0
  let value : Byte := match r.byteWrite with
    | some (_, v) => v
    | none => 0
  [flagBit (r.status = .error) ++ flagBit (r.urgent = true) ++ state ++ kind ++ BitVec.ofNat 2 (sourceCode r.source),
    r.row.extractLsb' 0 8,
    (0 : BitVec 1) ++ lane ++ order ++ BitVec.ofNat 2 r.bank.num ++ r.row.extractLsb' 8 2,
    r.col, BitVec.ofNat 8 r.count, BitVec.ofNat 2 (r.ticksLeft.getD 0) ++ BitVec.ofNat 6 r.done,
    (0 : BitVec 4) ++ BitVec.ofNat 4 r.bypass, value]

/-- The nine bytes of a channel in the channel counters table (R194). -/
def countersPlace (s : State) (c : Chan) : List Byte :=
  let x := s.chan c
  let state : BitVec 2 := match x.state with
    | .idle => 0
    | .running => 1
    | .draining => 2
    | .faulted => 3
  let reason : BitVec 2 := match x.lastSlip with
    | .noSlip => 0
    | .backlog => 1
    | .queueFull => 2
    | .fifo => 3
  let cursor := BitVec.ofNat 18 x.cursor
  [(0 : BitVec 2) ++ reason ++ BitVec.ofNat 2 (s.outstanding c) ++ state,
    cursor.extractLsb' 0 8, cursor.extractLsb' 8 8, (0 : BitVec 6) ++ cursor.extractLsb' 16 2,
    BitVec.ofNat 8 x.late, BitVec.ofNat 8 x.slips, BitVec.ofNat 8 x.fifo.length, BitVec.ofNat 8 x.reserved,
    BitVec.ofNat 8 x.claimed]

/-- A read of TDATA returns the byte at TIDX, 00h at or above the table's size and for a TSEL that names no table, and moves TIDX on;
nothing else changes (R189). The bytes of the timing table and the descriptors are those stored; the bank view, the weak list view, the fault
view, the queue view and the channel counters table are laid out as R194 and R195 say, places without a record reading 00h (R191). The bank
view shows no paused flag, which R194 has no bit for: the model's reading, entry 36. -/
def Obligations.TableReadsReturnTheByteAtTheIndex : Prop :=
  ∀ s : State, s.inReset = false →
    exec .tdataRead s = .next { s with
      hostData := some s.tdataByte, regs := { s.regs with tidx := nextIndex s.regs.tsel s.regs.tidx } } ∧
    (tableSizeOf s.regs.tsel ≤ s.regs.tidx.toNat ∨ 9 ≤ s.regs.tsel.toNat → s.tdataByte = 0) ∧
    (s.regs.tsel = 0 → ∀ v, s.timing[s.regs.tidx.toNat]? = some v → s.tdataByte = v) ∧
    (∀ c : Chan, s.regs.tsel.toNat = c.num + 1 → ∀ v, (s.chan c).desc[s.regs.tidx.toNat]? = some v → s.tdataByte = v) ∧
    (s.regs.tsel = 4 → s.regs.tidx = 0 → s.tdataByte = BitVec.ofNat 8 s.settle) ∧
    (s.regs.tsel = 5 →
      (s.regs.tidx = 0 → s.tdataByte = BitVec.ofNat 8 s.weak.length) ∧
      ∀ k j, k < 16 → j < 3 → s.regs.tidx.toNat = 1 + 3 * k + j →
        (∀ e, s.weak[k]? = some e → (weakPlace e)[j]? = some s.tdataByte) ∧ (s.weak.length ≤ k → s.tdataByte = 0)) ∧
    (s.regs.tsel = 6 →
      (∀ f, s.faultView = some f → ∀ v, (faultPlace f)[s.regs.tidx.toNat]? = some v → s.tdataByte = v) ∧
      (s.faultView = none → s.tdataByte = 0)) ∧
    (s.regs.tsel = 7 →
      (s.regs.tidx = 0 → s.tdataByte = BitVec.ofNat 8 s.queue.length) ∧
      ∀ k j, k < 8 → j < 8 → s.regs.tidx.toNat = 1 + 8 * k + j →
        (∀ r, s.queue[k]? = some r → (queuePlace r)[j]? = some s.tdataByte) ∧ (s.queue.length ≤ k → s.tdataByte = 0)) ∧
    (s.regs.tsel = 8 → ∀ (c : Chan) (j : Nat), j < 9 → s.regs.tidx.toNat = 9 * c.num + j →
      (countersPlace s c)[j]? = some s.tdataByte) ∧
    ∀ b : Bank, s.regs.tsel = 4 →
      let l := s.bank b
      (s.regs.tidx.toNat = 1 + 6 * b.num → s.tdataByte = (match l.state with
        | .absent => 0
        | .cold => 1
        | .warming => 2
        | .closed => 3
        | .activating _ => 4
        | .rowOpen => 5
        | .transferring => 6
        | .precharging => 7
        | .refreshing _ _ => 8
        | .held => 9)) ∧
      (s.regs.tidx.toNat = 2 + 6 * b.num → s.tdataByte = (l.line.openRow.getD 0).extractLsb' 0 8) ∧
      (s.regs.tidx.toNat = 3 + 6 * b.num →
        s.tdataByte =
          BitVec.ofBool l.line.openRow.isSome ++ BitVec.ofBool l.line.openPage ++ BitVec.ofBool l.line.expired ++
            (0 : BitVec 3) ++ (l.line.openRow.getD 0).extractLsb' 8 2) ∧
      (s.regs.tidx.toNat = 4 + 6 * b.num → s.tdataByte = l.pointer.extractLsb' 0 8) ∧
      (s.regs.tidx.toNat = 5 + 6 * b.num → s.tdataByte = (l.pointer.extractLsb' 8 2).setWidth 8) ∧
      (s.regs.tidx.toNat = 6 + 6 * b.num → l.debt ≤ 15 → s.tdataByte = BitVec.ofNat 8 l.debt)

/-- A write of TDATA is taken or refused by the selected table as it stands, and moves TIDX on in both cases; a refused one raises TBL_REF
(R189, R190). A taken write of PAGEPOL sets the page policies (R169); one of PRESENT moves each bank whose bit changes between ABSENT and
COLD, with its reset values, and removes the weak entries of the banks that leave (R14, R69). -/
def Obligations.TableWritesAreTakenOrRefused : Prop :=
  ∀ (s : State) (v : Byte), s.inReset = false →
    let i := s.regs.tidx.toNat
    let regs : HostRegs := { s.regs with tidx := nextIndex s.regs.tsel s.regs.tidx }
    let timing := s.timing.setIfInBounds i v
    (s.regs.tsel = 0 → s.mode = .setup → i < 10 → exec (.tdataWrite v) s = .next { s with timing := timing, regs := regs }) ∧
    (s.regs.tsel = 0 → s.mode = .setup → i = 10 →
      exec (.tdataWrite v) s = .next { s with
        timing := timing, regs := regs
        banks := s.banks.map fun b l => { l with line := { l.line with openPage := v.getLsbD b.num } } }) ∧
    (s.regs.tsel = 0 → s.mode = .setup → i = 11 →
      exec (.tdataWrite v) s = .next { s with
        timing := timing, regs := regs
        banks := s.banks.map fun b l =>
          if s.present b = v.getLsbD b.num then l
          else
            { state := if v.getLsbD b.num then .cold else .absent, elapsed := 0
              line := ⟨none, l.line.openPage, false, none⟩, pointer := 0, debt := 0, paused := false, lost := false }
        weak := s.weak.filter fun e => v.getLsbD e.bank.num }) ∧
    (∀ c : Chan, s.regs.tsel.toNat = c.num + 1 → i < 13 → (s.chan c).state = .idle ∨ (s.chan c).state = .faulted →
      s.outstanding c = 0 →
      exec (.tdataWrite v) s = .next { s with
        chans := s.chans.set c { s.chan c with desc := (s.chan c).desc.setIfInBounds i v }, regs := regs }) ∧
    ((s.regs.tsel = 0 ∧ s.mode ≠ .setup) ∨ tableSizeOf s.regs.tsel ≤ i ∨ 4 ≤ s.regs.tsel.toNat ∨
        (∃ c : Chan, s.regs.tsel.toNat = c.num + 1 ∧
          ((s.chan c).state = .running ∨ (s.chan c).state = .draining ∨ 0 < s.outstanding c)) →
      exec (.tdataWrite v) s = .next { s with events := s.events.raise .tblRef, regs := regs })

/-- Writes of the event registers, FLTLOST, CAUSE and TSEL (R159, R163, R184, R189): a 1 clears a flag and a 0 leaves it, any value clears
FLTLOST, TSEL sets TIDX to 0; the enables, the other flags and everything else stay. -/
def Obligations.AcknowledgeWritesClearWhatTheyName : Prop :=
  ∀ (s : State) (v : Byte), s.inReset = false →
    (∀ reg, ∃ t, exec (.eventRegisterWrite reg v) s = .next t ∧ t = { s with events := t.events } ∧
      t.events.en0 = s.events.en0 ∧ t.events.en1 = s.events.en1 ∧ t.events.en2 = s.events.en2 ∧
      ∀ e : Event, t.events.isSet e = true ↔ s.events.isSet e = true ∧ ¬(e.reg = reg ∧ v.getLsbD e.bit = true)) ∧
    exec (.fltlostWrite v) s = .next { s with fltLost := 0 } ∧
    exec (.causeWrite v) s = .next { s with
      por := if v.getLsbD 0 then false else s.por, pin := if v.getLsbD 1 then false else s.pin } ∧
    exec (.tselWrite v) s = .next { s with regs := { s.regs with tsel := v, tidx := 0 } }

/-- A write of a plain register, ARG0 to ARG2, the host address registers, the enables or TIDX, is read back, and no other register reads
otherwise for it but TDATA after a write of TIDX; a write of a read-only register is ignored (R185, R186). A write of a register that has a row
of its own is refused as a term that is not of this row (entry 26). -/
def Obligations.PlainRegistersReadBack : Prop :=
  ∀ (s : State) (a : BitVec 5) (v : Byte), s.inReset = false →
    let plain := (0x02 ≤ a ∧ a ≤ 0x08) ∨ (0x10 ≤ a ∧ a ≤ 0x12) ∨ a = 0x14
    (plain → ∃ t, exec (.registerWrite a v) s = .next t ∧
      t = { s with regs := t.regs, events := { t.events with ev0 := s.events.ev0, ev1 := s.events.ev1, ev2 := s.events.ev2 } } ∧
      t.readRegister a = v ∧
      ∀ a' : BitVec 5, a' ≠ a → ¬(a = 0x14 ∧ a' = 0x15) → t.readRegister a' = s.readRegister a') ∧
    (a = 0x00 ∨ a = 0x0B ∨ a = 0x0C ∨ (0x16 ≤ a ∧ a ≤ 0x1B) ∨ a = 0x1E ∨ a = 0x1F →
      exec (.registerWrite a v) s = .next s) ∧
    (hasOwnWriteRow a = true → exec (.registerWrite a v) s = .refused (.registerHasOwnRow a))

/-- The address of the register that an event flag stands in, and its bit there (R192's table). -/
def flagPlace : Event → BitVec 5 × Nat
  | .hrdDone => (0x0D, 0)
  | .hwrDone => (0x0D, 1)
  | .hostErr => (0x0D, 2)
  | .dpUnder => (0x0D, 3)
  | .dpOver => (0x0D, 4)
  | .tblRef => (0x0D, 5)
  | .modeDone => (0x0D, 6)
  | .wakePin => (0x0D, 7)
  | .late .c0 => (0x0E, 0)
  | .late .c1 => (0x0E, 1)
  | .late .c2 => (0x0E, 2)
  | .slip .c0 => (0x0E, 3)
  | .slip .c1 => (0x0E, 4)
  | .slip .c2 => (0x0E, 5)
  | .chFault => (0x0E, 6)
  | .chIdle => (0x0E, 7)
  | .fltNew => (0x0F, 0)
  | .fltOvf => (0x0F, 1)
  | .bankLost => (0x0F, 2)
  | .spotMiss => (0x0F, 3)
  | .laneStarve => (0x0F, 4)
  | .laneBlock => (0x0F, 5)
  | .pauseDebt => (0x0F, 6)
  | .cmdRef => (0x0F, 7)

/-- IRQ# is driven low exactly when some event flag is set together with its enable, and is high while a reset is in force (R167); raising a
flag sets it and no other, whatever its enable holds (R163). Each flag stands in EV0 to EV2 at its place of R192's table, and its enable at the
same bit of EN0 to EN2. -/
def Obligations.InterruptFollowsFlagsAndEnables : Prop :=
  ∀ s : State,
    (s.irqLow = true ↔ s.inReset = false ∧ ∃ e : Event, s.events.isSet e = true ∧ s.events.isEnabled e = true) ∧
    (∀ e e' : Event, (s.raise e).events.isSet e' = true ↔ e' = e ∨ s.events.isSet e' = true) ∧
    ∀ e : Event, (s.readRegister (flagPlace e).1).getLsbD (flagPlace e).2 = s.events.isSet e ∧
      (s.readRegister ((flagPlace e).1 + 3)).getLsbD (flagPlace e).2 = s.events.isEnabled e

/-! ### The lane -/

/-- LREQ_ASSERTED and LREQ_WITHDRAWN (R142, R148, R149): the lane request state, and LANE_STARVE or LANE_BLOCK at a first sighting; samples
taken while the channel's strobe is asserted change the level alone. -/
def Obligations.LaneRequestsAreSeenAndWithdrawn : Prop :=
  ∀ (s : State) (c : Chan), s.inReset = false →
    let x := s.chan c
    let strobing := (∃ w, s.strobe = some (.fetch c w)) ∨ (∃ f, s.strobe = some (.deposit c f))
    let seen : State := { s with chans := s.chans.set c { x with lreq := true, request := .pending } }
    let starves := x.direction = .fetch ∧ x.fifo.length = 0
    let blocks := x.direction = .deposit ∧ x.state = .running ∧ x.fifo.length = 64
    (x.request = .quiet → ¬strobing → starves → exec (.lreqAsserted c) s = .next (seen.raise .laneStarve)) ∧
    (x.request = .quiet → ¬strobing → blocks → exec (.lreqAsserted c) s = .next (seen.raise .laneBlock)) ∧
    (x.request = .quiet → ¬strobing → ¬starves → ¬blocks → exec (.lreqAsserted c) s = .next seen) ∧
    (x.request = .pending ∨ strobing →
      exec (.lreqAsserted c) s = .next { s with chans := s.chans.set c { x with lreq := true } }) ∧
    (¬strobing →
      exec (.lreqWithdrawn c) s = .next { s with chans := s.chans.set c { x with lreq := false, request := .quiet } }) ∧
    (strobing → exec (.lreqWithdrawn c) s = .next { s with chans := s.chans.set c { x with lreq := false } })

/-- LANE_GRANT with the bus free (R143 to R146): the first channel from the pointer on that can be served is granted, the pointer becomes the
number after it, and a FETCH channel's head word leaves its FIFO for LD; with the bus busy or no channel servable nothing changes (the model's
choice, entry 3). -/
def Obligations.LaneGrantServesTheFirstFromThePointer : Prop :=
  ∀ s : State, s.inReset = false →
    (∀ c, s.strobe = none → (s.chan c).CanBeServed →
      (c = s.lanePtr ∨ (c = s.lanePtr.next ∧ ¬(s.chan s.lanePtr).CanBeServed) ∨
        (c = s.lanePtr.next.next ∧ ¬(s.chan s.lanePtr).CanBeServed ∧ ¬(s.chan s.lanePtr.next).CanBeServed)) →
      ((s.chan c).direction = .deposit →
        exec .laneGrant s = .next { s with lanePtr := c.next, strobe := some (.deposit c false) }) ∧
      ∀ w rest, (s.chan c).direction = .fetch → (s.chan c).fifo = w :: rest →
        exec .laneGrant s = .next { s with
          lanePtr := c.next, strobe := some (.fetch c w), chans := s.chans.set c { s.chan c with fifo := rest } }) ∧
    (s.strobe ≠ none ∨ (∀ c, ¬(s.chan c).CanBeServed) → exec .laneGrant s = .next s)

/-- The ends of strobes (R142, R144, R145): the bus is free and the request is answered; a DEPOSIT strobe appends the word on LD to the FIFO
unless the FIFO was flushed since the grant, also where its channel's descriptor names FETCH by then (the model's reading, entry 38). Without a
strobe of the kind nothing changes (entry 3). LSTBn is asserted for the channel of the strobe in progress alone, and the part drives LD in a
FETCH strobe alone, with its word (R141). -/
def Obligations.StrobeEndsAnswerTheRequest : Prop :=
  ∀ (s : State) (c : Chan) (w ld : Data), s.inReset = false →
    let x := s.chan c
    (s.strobe = some (.fetch c w) →
      exec .fetchStrobeEnd s = .next { s with strobe := none, chans := s.chans.set c { x with request := .quiet } }) ∧
    (s.strobe = some (.deposit c false) →
      exec (.depositStrobeEnd ld) s = .next { s with
        strobe := none, chans := s.chans.set c { x with request := .quiet, fifo := x.fifo ++ [ld] } }) ∧
    (s.strobe = some (.deposit c true) →
      exec (.depositStrobeEnd ld) s = .next { s with
        strobe := none, chans := s.chans.set c { x with request := .quiet } }) ∧
    ((∀ d v, s.strobe ≠ some (.fetch d v)) → exec .fetchStrobeEnd s = .next s) ∧
    ((∀ d f, s.strobe ≠ some (.deposit d f)) → exec (.depositStrobeEnd ld) s = .next s) ∧
    (s.laneStrobe c = true ↔ (∃ v, s.strobe = some (.fetch c v)) ∨ ∃ f, s.strobe = some (.deposit c f)) ∧
    (s.laneData = some w ↔ ∃ d, s.strobe = some (.fetch d w))

/-- LSYNC_RISING_EDGE (R119, R141): one source event for a channel whose source is LSYNC, which at the product is a period tick in the same
happening; for another source the sample alone. A refresh tick is one source event in the same way for a channel whose source is REFRESH
(that the period tick is part of these rows, and a count above the product, are the model's readings, entries 14 and 15). The row of the
edge is an edge whatever the last sample was, since it stands for the low sample before it too (the model's choice, entry 19). -/
def Obligations.SourceEventsLeadToPeriodTicks : Prop :=
  ∀ (s : State) (c : Chan), s.inReset = false →
    let x := s.chan c
    let product := x.prescale * x.scale * x.bound
    let high : State := { s with chans := s.chans.set c { x with lsyncHigh := true } }
    (x.source ≠ .lsync → exec (.lsyncRisingEdge c) s = .next high) ∧
    (x.source = .lsync → product ≤ x.period + 1 → exec (.lsyncRisingEdge c) s = exec (.periodTick ⟨c, .sender⟩) high) ∧
    (x.source = .lsync → x.period + 1 < product →
      let u : State := { s with chans := s.chans.set c { x with lsyncHigh := true, period := x.period + 1 } }
      exec (.lsyncRisingEdge c) s = .next u.reconsiderAll ∧ u.ChoicesOf u.reconsiderAll) ∧
    (x.source ≠ .refresh → s.refreshEvent c = s) ∧
    (x.source = .refresh → product ≤ x.period + 1 → exec (.periodTick ⟨c, .sender⟩) s = .next (s.refreshEvent c).reconsiderAll) ∧
    (x.source = .refresh → x.period + 1 < product →
      s.refreshEvent c = { s with chans := s.chans.set c { x with period := x.period + 1 } })

/-! ### Ticks and counters -/

/-- TICK where the debts are counted (R39 to R41, R46, R54, R155): the timer starts again from 0; at each bank that the tick reaches the debt
rises by one below 15, with PAUSE_DEBT where a paused bank's debt reaches PL, and at 15 LOST is set, each newly lost bank being reported, B0
first, with BANK_LOST. Pointers, open rows and operations stay, and so do the words of banks that did not stand at 15 (entry 9). Then the
channels have their source events, and after all of them the banks their choices (the model's choice, entry 41). With the timer stopped
there is no tick (R38; entry 3). A tick that the
counter brought, and whose count was discarded before it was taken, does not occur, in any mode (R38, R56, R179); one that the sender
brings comes at any count (the model's choice, entry 2). -/
def Obligations.TicksRaiseTheDebts : Prop :=
  ∀ (order : ChanOrder) (origin : TickOrigin) (s : State), s.inReset = false →
    (s.mode = .setup ∨ s.mode = .hold → exec (.tick ⟨order, origin⟩) s = .next s) ∧
    (origin = .counter → s.tickCount < s.ri → exec (.tick ⟨order, origin⟩) s = .next s) ∧
    (s.mode = .run ∨ s.mode = .quiescing ∨ s.mode = .holdEntry → origin = .sender ∨ s.ri ≤ s.tickCount →
      let reached (b : Bank) : Bool := match (s.bank b).state with
        | .closed | .activating _ | .rowOpen | .transferring | .precharging | .refreshing _ _ => true
        | .absent | .cold | .warming | .held => false
      let newlyLost (b : Bank) : Bool := reached b && decide (15 ≤ (s.bank b).debt) && !(s.bank b).lost
      let report (v : State) (b : Bank) : State :=
        if newlyLost b then v.recordFault ⟨.refreshLost, b, none, none, 1⟩ else v
      let reported : State := report (report (report (report s .b0) .b1) .b2) .b3
      ∃ u, exec (.tick ⟨order, origin⟩) s = .next (order.toList.foldl State.refreshEvent u).reconsiderAll ∧
        u = { s with
          tickCount := 0, banks := u.banks, store := u.store, faults := reported.faults, fltLost := reported.fltLost
          events := { u.events with en0 := s.events.en0, en1 := s.events.en1, en2 := s.events.en2 } } ∧
        (∀ b, let l := s.bank b
          u.bank b =
            if reached b then if l.debt < 15 then { l with debt := l.debt + 1 } else { l with lost := true } else l) ∧
        (∀ b row col, reached b = false ∨ (s.bank b).debt < 15 → u.store.read b row col = s.store.read b row col) ∧
        ∀ e, u.events.isSet e = true ↔
          reported.events.isSet e = true ∨ (e = .bankLost ∧ ∃ b, newlyLost b = true) ∨
            (e = .pauseDebt ∧ ∃ b, reached b = true ∧ (s.bank b).paused = true ∧ (s.bank b).debt < 15 ∧
              (s.bank b).debt + 1 = s.pl))

/-- TICK where the settle count is counted, and the rows WARMUP_START and WAKE_SETTLE_END (R15, R21, R39, R168, R171, R181; entry 13): below
SETTLE the count rises by one; at SETTLE every COLD bank enters WARMING, or the wake ends with every HELD bank CLOSED, its line empty, its
debt 0 and its pointer kept, in RUN with MODE_DONE. No debt counts in these modes. A tick comes at the end of its counter's count, or from
the sender at any count (the model's choice, entry 2). Then the channels have their source events and the banks
their choices. WARMUP_START and WAKE_SETTLE_END outside their modes change nothing (the model's choice, entry 3). -/
def Obligations.TicksCountTheSettle : Prop :=
  ∀ (order : ChanOrder) (origin : TickOrigin) (s : State), s.inReset = false →
    let warmed : PerBank BankLane := s.banks.map fun _ l => if l.state = .cold then { l with state := .warming, elapsed := 0 } else l
    let woken : PerBank BankLane := s.banks.map fun _ l =>
      if l.state = .held then
        { l with
          state := .closed, elapsed := 0, debt := 0, line := { l.line with openRow := none, expired := false, timer := none } }
      else l
    let leads (u : State) : Prop :=
      origin = .sender ∨ s.ri ≤ s.tickCount →
        exec (.tick ⟨order, origin⟩) s = .next (order.toList.foldl State.refreshEvent u).reconsiderAll
    (s.mode = .warming ∨ s.mode = .waking →
      (s.settleLimit ≤ s.settle → leads { s with tickCount := 0 }) ∧
      (s.settle + 1 < s.settleLimit → leads { s with tickCount := 0, settle := s.settle + 1 })) ∧
    (s.mode = .warming →
      (s.settle + 1 = s.settleLimit → leads { s with tickCount := 0, settle := s.settle + 1, banks := warmed }) ∧
      exec .warmupStart s = .next { s with settle := s.settleLimit, banks := warmed }) ∧
    (s.mode = .waking →
      (s.settle + 1 = s.settleLimit →
        leads { s with
          tickCount := 0, settle := s.settle + 1, banks := woken, mode := .run, events := s.events.raise .modeDone }) ∧
      let u : State := { s with
        settle := s.settleLimit, banks := woken, mode := .run, events := s.events.raise .modeDone }
      exec .wakeSettleEnd s = .next u.reconsiderAll ∧ u.ChoicesOf u.reconsiderAll) ∧
    (s.mode ≠ .warming → exec .warmupStart s = .next s) ∧ (s.mode ≠ .waking → exec .wakeSettleEnd s = .next s)

/-- PERIOD_TICK (R72, R117, R118, R123 to R128): the count returns to 0; every record of the channel has its ticks left lowered, urgent when they
become 1, and counts as late when they become 0, unless the channel is IDLE; then a RUNNING channel at its late limit loses its WAITING
records and is FAULTED, and below it slips, with BACKLOG, QUEUE or FIFO in this order, or posts one burst at its cursor. Then every bank makes
its choice. A tick that the counter brought, and whose count was set to 0 before it was taken, does not occur (R119, R120); one that the
sender brings comes at any count (the model's choice, entry 2). -/
def Obligations.PeriodTicksAgeSlipAndPost : Prop :=
  ∀ (c : Chan) (origin : TickOrigin) (s : State), s.inReset = false →
    let x := s.chan c
    let product := x.prescale * x.scale * x.bound
    let k := s.queue.countP fun r => r.source == .chan c && r.ticksLeft == some 1
    let counts : Bool := x.state != .idle && decide (0 < k)
    let aged : List Record := s.queue.map fun r =>
      if r.source = .chan c then
        { r with ticksLeft := r.ticksLeft.map (· - 1), urgent := r.urgent || r.ticksLeft == some 2 }
      else r
    let y : Channel := { x with period := 0, late := if counts then min 15 (x.late + k) else x.late }
    let raised : EventRegs := if counts then s.events.raise (.late c) else s.events
    let with' (q : List Record) (y' : Channel) (e : EventRegs) : State :=
      { s with queue := q, chans := s.chans.set c y', events := e }
    let waits (r : Record) : Bool := r.source == .chan c && r.state == .waiting
    let words (kind : Kind) : Nat := (((aged.filter waits).filter (·.kind == kind)).map Record.count).sum
    let slips (why : SlipReason) : State :=
      with' aged { y with slips := min 255 (x.slips + 1), lastSlip := why } (raised.raise (.slip c))
    let room : Nat := match x.direction with
      | .fetch => 64 - x.fifo.length - x.reserved
      | .deposit => x.fifo.length - x.claimed
    let place := x.baseRow * 256 + x.baseCol + x.cursor
    let kind : Kind := match x.direction with
      | .fetch => .read
      | .deposit => .write
    let posted : State :=
      with'
        (aged ++ [{ source := .chan c, kind := kind, bank := x.bank, row := BitVec.ofNat 10 (place / 256)
                    col := BitVec.ofNat 8 (place % 256), count := x.burst, order := .linear, done := 0, state := .waiting
                    urgent := x.allowance == 1, ticksLeft := some x.allowance, bypass := 0, byteWrite := none
                    status := .good, selected := none }])
        { y with
          cursor := if x.regionLength ≤ x.cursor + x.burst then 0 else x.cursor + x.burst
          reserved := if kind = .read then x.reserved + x.burst else x.reserved
          claimed := if kind = .write then x.claimed + x.burst else x.claimed }
        raised
    let leads (u : State) : Prop :=
      origin = .sender ∨ product ≤ x.period →
        exec (.periodTick ⟨c, origin⟩) s = .next u.reconsiderAll ∧ u.ChoicesOf u.reconsiderAll
    (origin = .counter → x.period < product → exec (.periodTick ⟨c, origin⟩) s = .next s) ∧
    (x.state ≠ .running → leads (with' aged y raised)) ∧
    (x.state = .running →
      (x.lateLimit ≤ y.late →
        leads (with' (aged.filter fun r => !waits r)
          { y with state := .faulted, reserved := x.reserved - words .read, claimed := x.claimed - words .write }
          (raised.raise .chFault))) ∧
      (y.late < x.lateLimit →
        (3 ≤ s.outstanding c → leads (slips .backlog)) ∧
        (s.outstanding c < 3 → 8 ≤ s.queue.length → leads (slips .queueFull)) ∧
        (s.outstanding c < 3 → s.queue.length < 8 → room < x.burst → leads (slips .fifo)) ∧
        (s.outstanding c < 3 → s.queue.length < 8 → x.burst ≤ room → leads posted)))

/-- OPEN_LIMIT_EXPIRY (R25, R83, R85): of a TRANSFERRING bank the expired flag is set and the timer stops; an OPEN bank drops its selection and,
where the choice is made, closes its row at once. Without a timer counting nothing changes (entry 3). -/
def Obligations.OpenLimitsExpire : Prop :=
  ∀ (b : Bank) (s : State), s.inReset = false →
    let l := s.bank b
    let line : OpenLine := { l.line with expired := true, timer := none }
    let dropped : List Record := s.queue.map fun r => if r.bank = b then { r with selected := none } else r
    (l.line.timer.isSome = true →
      (l.state = .transferring → exec (.openLimitExpiry b) s = .next { s with banks := s.banks.set b { l with line := line } }) ∧
      (l.state = .rowOpen → s.mode = .run ∨ s.mode = .quiescing ∨ s.mode = .holdEntry →
        exec (.openLimitExpiry b) s = .next { s with
          banks := s.banks.set b { l with state := .precharging, elapsed := 0, line := line }, queue := dropped }) ∧
      (l.state = .rowOpen → s.mode ≠ .run → s.mode ≠ .quiescing → s.mode ≠ .holdEntry →
        exec (.openLimitExpiry b) s = .next { s with banks := s.banks.set b { l with line := line }, queue := dropped })) ∧
    (l.line.timer = none ∨ (l.state ≠ .rowOpen ∧ l.state ≠ .transferring) → exec (.openLimitExpiry b) s = .next s)

/-! ### Ends of operations -/

/-- ACTIVATION_END and PRECHARGE_END (R17, R18, R25, R176): OPEN with the activated row, the expired flag clear and the timer from 0; CLOSED with
the line empty and the timer stopped; then the test for the end of the quiesce and the bank's choice. The end of an operation that is not in
progress changes nothing (entry 3). The test makes the mode RUN with MODE_DONE where R176's conditions hold in QUIESCING, with the Host
Transfer Unit as after reset (R111; that a byte written to DATAL during the quiesce is taken with it is the model's reading of R105, entry
39), and changes nothing elsewhere. -/
def Obligations.ActivationsOpenAndPrechargesClose : Prop :=
  ∀ (b : Bank) (s : State), s.inReset = false →
    let l := s.bank b
    (∀ row, l.state = .activating row →
      let opened : OpenLine := { l.line with openRow := some row, expired := false, timer := some 0 }
      let u : State := { s with banks := s.banks.set b { l with state := .rowOpen, elapsed := 0, line := opened } }
      let t := u.quiesceTest.reconsider b
      exec (.activationEnd b) s = .next t ∧ u.ChoiceOf t b ∧ (s.mode = .quiescing → (t.mode = .run ↔ u.QuiesceOver))) ∧
    (l.state = .precharging →
      let emptied : OpenLine := { l.line with openRow := none, expired := false, timer := none }
      let u : State := { s with banks := s.banks.set b { l with state := .closed, elapsed := 0, line := emptied } }
      (s.mode ≠ .quiescing → exec (.prechargeEnd b) s = .next (u.choose b)) ∧
      let t := u.quiesceTest.reconsider b
      exec (.prechargeEnd b) s = .next t ∧ u.ChoiceOf t b ∧ (s.mode = .quiescing → (t.mode = .run ↔ u.QuiesceOver))) ∧
    (s.mode = .quiescing → s.QuiesceOver →
      s.quiesceTest = { s with
        mode := .run, prechargeAll := false, host := ⟨[], none, [], none, none, false⟩, events := s.events.raise .modeDone }) ∧
    (s.mode ≠ .quiescing ∨ ¬s.QuiesceOver → s.quiesceTest = s) ∧
    ((∀ row, l.state ≠ .activating row) → exec (.activationEnd b) s = .next s) ∧
    (l.state ≠ .precharging → exec (.prechargeEnd b) s = .next s)

/-- REGULAR_REFRESH_END and SPOT_REFRESH_END (R47, R59 to R63): the debt falls by one, the pointer goes to the next row, 1023 to 0, and each weak
entry takes the report: its own row clears its spot, a row at half or quarter distance makes it pending, or is a miss where it is pending;
a spot refresh clears its entry's pending flag and leaves debt and pointer (entries of other banks are not touched: the model's reading,
entry 12). Then the quiesce test and the bank's choice, which may start a spot refresh at once (the model's reading where a BANK_PAUSE comes
together with the end, entry 40). The end of a refresh that is not in progress changes nothing (the model's choice,
entry 3). -/
def Obligations.RefreshEndsReportToTheWeakList : Prop :=
  ∀ (b : Bank) (s : State), s.inReset = false →
    let l := s.bank b
    (∀ row, l.state = .refreshing .regular row →
      let due (e : WeakEntry) : Bool := e.bank == b && !l.paused &&
        match e.rate with
        | .two => row == e.row + 512
        | .four => row == e.row + 256 || row == e.row + 512 || row == e.row + 768
      let u : State := { s with
        banks := s.banks.set b { l with state := .closed, elapsed := 0, debt := l.debt - 1, pointer := l.pointer + 1 }
        weak := s.weak.map fun e =>
          if e.bank = b ∧ e.row = row then { e with pending := false }
          else if due e then
            if e.pending then { e with misses := min 15 (e.misses + 1) } else { e with pending := true }
          else e
        events := if s.weak.any fun e => due e && e.pending then s.events.raise .spotMiss else s.events }
      let t := u.quiesceTest.reconsider b
      exec (.regularRefreshEnd b) s = .next t ∧ u.ChoiceOf t b ∧ (s.mode = .quiescing → (t.mode = .run ↔ u.QuiesceOver))) ∧
    (∀ row, l.state = .refreshing .spot row →
      let u : State := { s with
        banks := s.banks.set b { l with state := .closed, elapsed := 0 }
        weak := s.weak.map fun e => if e.bank = b ∧ e.row = row then { e with pending := false } else e }
      let t := u.quiesceTest.reconsider b
      exec (.spotRefreshEnd b) s = .next t ∧ u.ChoiceOf t b ∧ (s.mode = .quiescing → (t.mode = .run ↔ u.QuiesceOver))) ∧
    ((∀ row, l.state ≠ .refreshing .regular row) → exec (.regularRefreshEnd b) s = .next s) ∧
    ((∀ row, l.state ≠ .refreshing .spot row) → exec (.spotRefreshEnd b) s = .next s)

/-- WARMUP_REFRESH_END (R15, R172): the pointer advances; below 8 the next warm-up refresh starts at once, at 8 the bank is CLOSED, and the report
that leaves every present bank CLOSED makes the mode RUN with MODE_DONE, after which every bank makes its choice. Debts stay as they are. The
end of a warm-up refresh that is not in progress changes nothing (the model's choice, entry 3). -/
def Obligations.WarmupRefreshesBringTheBanksUp : Prop :=
  ∀ (b : Bank) (s : State), s.inReset = false →
    let l := s.bank b
    let goes (st : BankState) : State :=
      { s with banks := s.banks.set b { l with state := st, elapsed := 0, pointer := l.pointer + 1 } }
    let others := ∀ b', b' ≠ b → s.present b' = true → (s.bank b').state = .closed
    (l.state = .warming →
      ((l.pointer + 1).toNat < 8 → exec (.warmupRefreshEnd b) s = .next (goes .warming)) ∧
      (8 ≤ (l.pointer + 1).toNat →
        (s.mode ≠ .warming ∨ ¬others → exec (.warmupRefreshEnd b) s = .next (goes .closed)) ∧
        (s.mode = .warming → others →
          let u : State := { goes .closed with mode := .run, events := s.events.raise .modeDone }
          exec (.warmupRefreshEnd b) s = .next u.reconsiderAll ∧ u.ChoicesOf u.reconsiderAll))) ∧
    (l.state ≠ .warming → exec (.warmupRefreshEnd b) s = .next s)

/-! ### Transfers -/

/-- WORD_TRANSFER_END and RMW_WORD_END before the last word, outside QUIESCING (R28 to R31, R34 to R37): the word has moved; the next one starts
over the same grant when it lies in the open row and nothing stops the run, and otherwise the record is RESUMABLE, the bank OPEN, and its
choice is made. A row that ends no operation in progress changes nothing (entry 3). -/
def Obligations.WordsMoveAndTheRunGoesOn : Prop :=
  ∀ s : State, s.inReset = false →
    (∀ i r, s.InFlightAt i r →
      let l := s.bank r.bank
      let inRow := l.line.openRow = some ({ r with done := r.done + 1 } : Record).nextRow
      (s.mode ≠ .quiescing → r.done + 1 < r.count → ∃ m, s.WordMoved i r m ∧
        (inRow → ¬s.MustStop r.bank →
          exec (endRow r) s = .next { m with banks := s.banks.set r.bank { l with state := .transferring, elapsed := 0 } }) ∧
        (¬inRow ∨ s.MustStop r.bank →
          let u : State := { m with
            banks := s.banks.set r.bank { l with state := .rowOpen, elapsed := 0 }
            queue := m.queue.modify i fun q => { q with state := .resumable } }
          exec (endRow r) s = .next (u.reconsider r.bank) ∧ u.ChoiceOf (u.reconsider r.bank) r.bank)) ∧
      (r.kind = .byteWrite → exec .wordTransferEnd s = .next s) ∧ (r.kind ≠ .byteWrite → exec .rmwWordEnd s = .next s)) ∧
    ((∀ i r, ¬s.InFlightAt i r) → exec .wordTransferEnd s = .next s ∧ exec .rmwWordEnd s = .next s)

/-- The last word of a record, outside QUIESCING (R29, R37, R89, R95, R103, R107, R108, R130, R154): the word has moved, the record leaves, the bank
is OPEN, and its source has its effects: HRD_DONE with the buffer released, RDBAD and HOST_ERR for a bad word; HWR_DONE with the write buffer
emptied, HOST_ERR for a byte write that did not merge; a DRAINING channel without records left is IDLE with CH_IDLE. In HOLD_ENTRY a queue left
empty is reported at once, with the precharge-all action; then every bank makes its choice. -/
def Obligations.LastWordsCompleteTheirRecord : Prop :=
  ∀ (s : State) (i : Nat) (r : Record), s.inReset = false → s.InFlightAt i r → s.mode ≠ .quiescing → r.count ≤ r.done + 1 →
    ∃ m q, s.WordMoved i r m ∧ m.queue[i]? = some q ∧
      let bad : Bool := q.status == .error
      let done (e : Event) : EventRegs := if bad then (m.events.raise e).raise .hostErr else m.events.raise e
      let left : State := { m with
        banks := s.banks.set r.bank { s.bank r.bank with state := .rowOpen, elapsed := 0 }, queue := m.queue.eraseIdx i }
      let u : State := match r.source, r.kind with
        | .host, .read => { left with host := { m.host with rdbad := m.host.rdbad || bad }, events := done .hrdDone }
        | .host, _ => { left with host := { m.host with writeBuf := [] }, events := done .hwrDone }
        | .chan c, _ =>
          if (s.chan c).state = .draining ∧ (left.queue.all fun p => p.source != .chan c) = true then
            { left with chans := m.chans.set c { m.chan c with state := .idle }, events := m.events.raise .chIdle }
          else left
      let v : State := { u with prechargeAll := if s.mode = .holdEntry ∧ u.queue = [] then true else s.prechargeAll }
      let t := v.reconsiderAll
      exec (endRow r) s = .next t ∧ u.ChoicesOf t ∧
        (s.mode = .holdEntry → u.queue = [] → t.prechargeAll = true ∨ t.mode = .hold)

/-- The end of a word in QUIESCING (R33, R94, R111, R135, R176): the word has moved, the record is removed without any completion effect, what
waited for it is cleared, and the mode is RUN exactly when the test of R176 holds then; then every bank makes its choice. -/
def Obligations.QuiescingRemovesTheRecordInFlight : Prop :=
  ∀ (s : State) (i : Nat) (r : Record), s.inReset = false → s.InFlightAt i r → s.mode = .quiescing →
    ∃ m, s.WordMoved i r m ∧
      let left : State := { m with
        banks := s.banks.set r.bank { s.bank r.bank with state := .rowOpen, elapsed := 0 }, queue := m.queue.eraseIdx i }
      let u : State := match r.source, r.kind with
        | .host, .read => { left with host := { m.host with readBuf := [], rdbad := false } }
        | .host, .write => { left with host := { m.host with writeBuf := [], writeOpen := none } }
        | .host, .byteWrite => left
        | .chan c, _ => { left with
            chans := m.chans.set c { m.chan c with fifo := [], reserved := 0, claimed := 0 }
            strobe := s.strobe.map (Strobe.afterFlush c) }
      let t := u.quiesceTest.reconsiderAll
      exec (endRow r) s = .next t ∧ u.ChoicesOf t ∧ (t.mode = .run ↔ u.QuiesceOver)

/-- DATA_PATH_GRANT (R27, R86 to R88): the oldest urgent selection, or else the oldest, is granted: its bank is TRANSFERRING, the record ACTIVE; a
grant by line c raises by one, to 8 at most, the bypass count of every older eligible record of the bank, and of no other. With the path
taken, or without a selection, nothing changes (the model's choice, entry 3). -/
def Obligations.GrantsNameTheOldestSelection : Prop :=
  ∀ s : State, s.inReset = false →
    (∀ i r, s.pathFree = true → s.GrantNames i r →
      ∃ q, exec .dataPathGrant s = .next { s with
          banks := s.banks.set r.bank { s.bank r.bank with state := .transferring, elapsed := 0 }, queue := q } ∧
        q.length = s.queue.length ∧
        ∀ j p, s.queue[j]? = some p → q[j]? = some
          (if j = i then { r with state := .active, selected := none }
          else if j < i ∧ r.selected = some .openRowLine ∧ p.bank = r.bank ∧ eligible (s.queue.take j) p = true then
            { p with bypass := min 8 (p.bypass + 1) }
          else p)) ∧
    (s.pathFree = false ∨ (∀ i r, ¬s.SelectionAt i r) → exec .dataPathGrant s = .next s)

/-! ### The choice of a bank -/

/-- Eligibility (R4, R78): a record is eligible behind older ones when it is WAITING or RESUMABLE and no older record has its source, or shares
a word with it where either of the two is a write. -/
def Obligations.EligibilityFollowsOrderAndHazards : Prop :=
  ∀ (older : List Record) (r : Record),
    let shares (p : Record) := p.bank = r.bank ∧ ∃ j k, j < p.count ∧ k < r.count ∧ p.wordOffset j = r.wordOffset k
    (eligible older r = true ↔
      (r.state = .waiting ∨ r.state = .resumable) ∧
        ∀ p ∈ older, p.source ≠ r.source ∧ (shares p → p.kind = .read ∧ r.kind = .read))

/-- The candidate of a bank (R82): the oldest urgent eligible record, or else the oldest at bypass count 8, or else, of an OPEN bank, the oldest
whose next word lies in the open row, or else the oldest. -/
def Obligations.CandidatesFollowTheLines : Prop :=
  ∀ (s : State) (b : Bank) (line : ChoiceLine) (i : Nat), s.candidate b = some (line, i) ↔ s.CandidateBy b line i

/-- The choice of a CLOSED bank (R45, R48, R62, R80, R81, R83, R84, R179): in the hold sequence its debt, its pending spots and then HELD, the
last present bank making the mode HOLD with MODE_DONE; otherwise a forced refresh, a spot refresh, the activation of its candidate's row, or a
refresh of its debt, in this order. A paused bank refreshes nothing. Nothing changes but the bank's state. -/
def Obligations.ClosedBanksChoose : Prop :=
  ∀ (s : State) (b : Bank), (s.bank b).state = .closed → s.mode = .run ∨ s.mode = .quiescing ∨ s.mode = .holdEntry →
    let l := s.bank b
    let starts (st : BankState) : State := { s with banks := s.banks.set b { l with state := st, elapsed := 0 } }
    let holding := s.mode = .holdEntry ∧ s.prechargeAll = true
    let noSpot := ∀ e ∈ s.weak, ¬(e.bank = b ∧ e.pending = true)
    let calm := l.paused = true ∨ (l.debt < s.pl ∧ noSpot)
    let noCandidate := ∀ i, ¬s.Choosable b (fun _ => True) i
    (holding →
      (0 < l.debt → s.choose b = starts (.refreshing .regular l.pointer)) ∧
      (l.debt = 0 → ∀ e, s.FirstPending b e → s.choose b = starts (.refreshing .spot e.row)) ∧
      (l.debt = 0 → noSpot →
        ((∃ b', b' ≠ b ∧ s.present b' = true ∧ (s.bank b').state ≠ .held) → s.choose b = starts .held) ∧
        ((∀ b', b' ≠ b → s.present b' = true → (s.bank b').state = .held) →
          s.choose b = { starts .held with
            mode := .hold, prechargeAll := false, tickCount := 0, events := s.events.raise .modeDone }))) ∧
    (¬holding →
      (l.paused = false → s.pl ≤ l.debt → s.choose b = starts (.refreshing .regular l.pointer)) ∧
      (l.paused = false → l.debt < s.pl → ∀ e, s.FirstPending b e → s.choose b = starts (.refreshing .spot e.row)) ∧
      (calm → ∀ line i r, s.CandidateBy b line i → s.queue[i]? = some r → s.choose b = starts (.activating r.nextRow)) ∧
      (calm → noCandidate → 0 < l.debt → l.paused = false → s.choose b = starts (.refreshing .regular l.pointer)) ∧
      (calm → noCandidate → l.debt = 0 ∨ l.paused = true → s.choose b = s))

/-- The choice of an OPEN bank (R18, R80, R81, R83, R85): a need, the expired flag or the precharge-all action closes the row and drops the
selection; a READY bank keeps its selection otherwise; a candidate in the open row is selected with the line that found it, one in another
row closes the row, and without a candidate the page policy decides. A bank in any other state has no choice to make; a CLOSED one makes
that of ClosedBanksChoose. What the looks of one bank and of all banks may change, in every state, is said too: all banks look one after
the other. -/
def Obligations.OpenBanksChoose : Prop :=
  ∀ (s : State) (b : Bank), s.mode = .run ∨ s.mode = .quiescing ∨ s.mode = .holdEntry →
    let l := s.bank b
    let closes : State := { s with banks := s.banks.set b { l with state := .precharging, elapsed := 0 } }
    let dropped : List Record := s.queue.map fun r => if r.bank = b then { r with selected := none } else r
    let selects := ∃ r ∈ s.queue, r.bank = b ∧ r.selected.isSome = true
    (l.state = .rowOpen →
      (s.MustStop b → s.reconsider b = { closes with queue := dropped }) ∧
      (¬s.MustStop b → selects → s.reconsider b = s) ∧
      (¬s.MustStop b → ¬selects →
        (∀ line i r, s.CandidateBy b line i → s.queue[i]? = some r →
          (s.InOpenRow b r → s.reconsider b = { s with queue := s.queue.set i { r with selected := some line } }) ∧
          (¬s.InOpenRow b r → s.reconsider b = closes)) ∧
        ((∀ i, ¬s.Choosable b (fun _ => True) i) →
          (l.line.openPage = true → s.reconsider b = s) ∧ (l.line.openPage = false → s.reconsider b = closes)))) ∧
    (l.state = .closed → s.reconsider b = s.choose b) ∧ (l.state ≠ .rowOpen → l.state ≠ .closed → s.reconsider b = s) ∧
    ∀ u : State, u.ChoiceOf (u.reconsider b) b ∧ u.ChoicesOf u.reconsiderAll ∧
      u.reconsiderAll = [Bank.b0, .b1, .b2, .b3].foldl State.reconsider u

/-! ### The store and the words of a request -/

/-- The words of a request (R2, R4 to R6): LINEAR runs on through rows by the linear offset; WRAP4 and WRAP8 stay in the row and in the aligned
group of the start column, and go round in it. The next word of a record is the one that its done count names. The row and column of an
offset inside a bank give the offset back. -/
def Obligations.WordsOfARequestFollowItsOrder : Prop :=
  ∀ (r : Record) (k : Nat),
    (r.order = .linear → r.wordOffset k = r.row.toNat * 256 + r.col.toNat + k) ∧
    (∀ g, (r.order = .wrap4 ∧ g = 4) ∨ (r.order = .wrap8 ∧ g = 8) →
      rowOfOffset (r.wordOffset k) = r.row ∧ (colOfOffset (r.wordOffset k)).toNat / g = r.col.toNat / g ∧
        (colOfOffset (r.wordOffset k)).toNat % g = (r.col.toNat + k) % g) ∧
    r.nextRow = rowOfOffset (r.wordOffset r.done) ∧ r.nextCol = colOfOffset (r.wordOffset r.done) ∧
    ∀ o, o < 262144 → (rowOfOffset o).toNat * 256 + (colOfOffset o).toNat = o

/-- The store (R1, R2, R10 to R12): a word written reads back with the parity it was written with, and every other word reads as before; a
word with generated parity is good, and bad once any one of its 18 bits is changed. The parity is odd: SP0, bit 0 of the parity, with the low
byte and SP1 with the high byte hold an odd number of ones in a word with generated parity, and a byte of any word is good exactly when they
do; a word is bad when either byte is. That a store keeps what was written is the model's
presumption (entry 10). -/
def Obligations.StoreWordsReadBackWithTheirParity : Prop :=
  (∀ (st : Store) (b : Bank) (row : Row) (col : Col) (w : StoreWord),
    (st.write b row col w).read b row col = w ∧
    ∀ b' row' col', ¬(b' = b ∧ row' = row ∧ col' = col) → (st.write b row col w).read b' row' col' = st.read b' row' col') ∧
  let odd (d : Data) (first : Nat) (p : Bool) : Prop :=
    ((List.range 8).countP (fun k => d.getLsbD (first + k)) + p.toNat) % 2 = 1
  (∀ w : StoreWord,
    (w.lowGood = true ↔ odd w.data 0 (w.parity.getLsbD 0)) ∧ (w.highGood = true ↔ odd w.data 8 (w.parity.getLsbD 1)) ∧
    (w.bad = true ↔ w.lowGood = false ∨ w.highGood = false)) ∧
  ∀ d : Data, (StoreWord.fresh d).data = d ∧ (StoreWord.fresh d).bad = false ∧
    odd d 0 ((StoreWord.fresh d).parity.getLsbD 0) ∧ odd d 8 ((StoreWord.fresh d).parity.getLsbD 1) ∧
    (∀ k, k < 16 → ({ StoreWord.fresh d with data := d ^^^ BitVec.twoPow 16 k } : StoreWord).bad = true) ∧
    ∀ k, k < 2 →
      ({ StoreWord.fresh d with parity := (StoreWord.fresh d).parity ^^^ BitVec.twoPow 2 k } : StoreWord).bad = true

/-! ### Faults and status -/

/-- A fault report (R156, R158): a record of the same kind, bank, row and column has its repeat count raised, up to 255, and no event; otherwise
the report is appended as the youngest record with FLT_NEW while the list holds fewer than 8; otherwise it is lost, FLTLOST rises, up to 255,
and FLT_OVF is raised. -/
def Obligations.FaultReportsAreMergedAppendedOrLost : Prop :=
  ∀ (s : State) (f : FaultRecord),
    let same (g : FaultRecord) := f.kind = g.kind ∧ f.bank = g.bank ∧ f.place = g.place
    (∀ before g after, s.faults = before ++ g :: after → same g → (∀ h ∈ before, ¬same h) → (∀ h ∈ after, ¬same h) →
      s.recordFault f = { s with faults := before ++ { g with repeats := min 255 (g.repeats + 1) } :: after }) ∧
    ((∀ g ∈ s.faults, ¬same g) →
      (s.faults.length < 8 →
        s.recordFault f = { s with faults := s.faults ++ [f], events := s.events.raise .fltNew }) ∧
      (8 ≤ s.faults.length →
        s.recordFault f = { s with fltLost := min 255 (s.fltLost + 1), events := s.events.raise .fltOvf }))

/-- The result codes (R187's table). -/
def resultCode : Result → Byte
  | .ok => 0x00
  | .busy => 0x01
  | .mode => 0x02
  | .full => 0x03
  | .range => 0x04
  | .duplicate => 0x05
  | .notfound => 0x06
  | .listfull => 0x07
  | .bound => 0x08
  | .timing => 0x09
  | .nobank => 0x0A
  | .region => 0x0B
  | .empty => 0x0C
  | .paused => 0x0D
  | .unknown => 0x0E

/-- What the store pins of a word operation carry: CST#, WST#, and the word driven on SD and SP. -/
def WordPins (s : State) (cst wst : Bool) (word : Option StoreWord) : Prop :=
  s.columnStrobe = cst ∧ s.writeStrobe = wst ∧ s.storeData = word

/-- The status registers show the state as it stands, by the layouts of R192, CMD shows the code of the last result (R187), and the store pins
show the operations in progress. A bank's row strobe is asserted from an activation to the precharge and in every refresh, with the row on MA;
in a word operation MA carries the column, CST# is asserted, and in a write WST# too, with the word and its generated parity on SD and SP; an
RMW word reads, merges and writes, and writes nothing where the untouched byte is bad (R3, R11, R17 to R19, R28, R35, R36; what CST# and MA
carry in the merge part, MA in a write part that does not merge, and SD and SP undriven in both, is the model's choice, entry 37). A HELD
bank is in self-retention to the start of the wake (R20, R21). -/
def Obligations.StatusRegistersShowTheState : Prop :=
  ∀ s : State,
    let status := s.readRegister 0x00
    (status.extractLsb' 0 3).toNat = (match s.mode with
      | .setup => 0
      | .warming => 1
      | .run => 2
      | .quiescing => 3
      | .holdEntry => 4
      | .hold => 5
      | .waking => 6) ∧
    status.getLsbD 3 = s.hrdPend ∧ status.getLsbD 4 = s.hwrPend ∧ status.getLsbD 5 = s.host.rdbad ∧
    (status.getLsbD 6 = true ↔ 8 ≤ s.queue.length) ∧ status.getLsbD 7 = false ∧
    (∀ c : Chan, s.outstanding c ≤ 3 →
      let v := s.readRegister (BitVec.ofNat 5 (0x17 + c.num))
      (v.extractLsb' 0 2).toNat = (match (s.chan c).state with
        | .idle => 0
        | .running => 1
        | .draining => 2
        | .faulted => 3) ∧
      (v.extractLsb' 2 2).toNat = s.outstanding c ∧ (v.extractLsb' 4 4).toNat = 0) ∧
    (∀ b : Bank, (s.readRegister 0x1A).getLsbD b.num = (s.bank b).lost ∧
      (s.readRegister 0x1A).getLsbD (4 + b.num) = (s.bank b).paused) ∧
    ((s.readRegister 0x1D).getLsbD 0 = s.por ∧ (s.readRegister 0x1D).getLsbD 1 = s.pin ∧
      ((s.readRegister 0x1D).extractLsb' 2 6).toNat = 0) ∧
    (s.host.readBuf.length < 256 → (s.readRegister 0x0B).toNat = s.host.readBuf.length) ∧
    (s.host.writeBuf.length < 256 → (s.readRegister 0x0C).toNat = s.host.writeBuf.length) ∧
    (s.queue.length < 256 → (s.readRegister 0x16).toNat = s.queue.length) ∧
    (s.faults.length < 256 → (s.readRegister 0x1B).toNat = s.faults.length) ∧
    (s.fltLost < 256 → (s.readRegister 0x1C).toNat = s.fltLost) ∧
    s.readRegister 0x01 = resultCode s.regs.cmd ∧
    (∀ b : Bank,
      (s.selfRetention b = true ↔ (s.bank b).state = .held ∧ s.mode ≠ .waking) ∧
      (match (s.bank b).state with
        | .activating row | .refreshing _ row => s.rowStrobe b = true ∧ s.addressPins b = some row
        | .warming => s.rowStrobe b = true ∧ s.addressPins b = some (s.bank b).pointer
        | .transferring => s.rowStrobe b = true
        | .rowOpen => s.rowStrobe b = true ∧ s.addressPins b = none
        | .absent | .cold | .closed | .precharging | .held => s.rowStrobe b = false ∧ s.addressPins b = none)) ∧
    (∀ i r, s.InFlightAt i r →
      let clock := (s.bank r.bank).elapsed
      let w := s.store.read r.bank r.nextRow r.nextCol
      s.addressPins r.bank = some ((0 : BitVec 2) ++ r.nextCol) ∧
      (r.kind = .read → WordPins s true false none) ∧
      (r.kind = .write → ∀ d,
        (match r.source with
          | .host => s.host.writeBuf[r.done]?
          | .chan c => (s.chan c).fifo.head?) = some d → WordPins s true true (some (StoreWord.fresh d))) ∧
      (r.kind = .byteWrite → ∀ lane v, r.byteWrite = some (lane, v) →
        let merges : Bool := match lane with
          | .low => w.highGood
          | .high => w.lowGood
        let merged : Data := match lane with
          | .low => highByte w.data ++ v
          | .high => v ++ lowByte w.data
        (clock < s.tWORD → WordPins s true false none) ∧
        (s.tWORD ≤ clock → clock < s.tWORD + s.tRMW → WordPins s false false none) ∧
        (s.tWORD + s.tRMW ≤ clock → merges = true → WordPins s true true (some (StoreWord.fresh merged))) ∧
        (s.tWORD + s.tRMW ≤ clock → merges = false → WordPins s false false none))) ∧
    ((∀ i r, ¬s.InFlightAt i r) → WordPins s false false none)

/-! ### The host bus -/

/-- Bus cycles and rows agree (R185 to R188): a cycle spells a well-formed row exactly when that row is carried out by that cycle. No two
cycles spell one row with the same operands, and no bit of a cycle is dropped. On the pins (R185) a read cycle is CS# and RD#, and drives D[7:0]
with the register's value outside a reset; a write cycle is CS# and WR#, and drives nothing; with CS# deasserted, with RD# and WR# together, or
with neither, nothing is driven and nothing happens. -/
def Obligations.BusCyclesAndRowsAgree : Prop :=
  (∀ (x : BusCycle) (i : Instr), rowOfCycle x = some i ↔ i.wf = true ∧ cycleOfRow i = some x) ∧
  ∀ (s : State) (p : BusPins),
    (p.cs = true → p.rd = true → p.wr = false →
      s.busDrives p = (if s.inReset then none else some (s.readRegister p.addr)) ∧
      (∀ i, rowOfCycle (.read p.addr) = some i → s.presentBus p = { s with pending := s.pending ++ [i] }) ∧
      (rowOfCycle (.read p.addr) = none → s.presentBus p = s)) ∧
    (p.cs = true → p.rd = false → p.wr = true →
      s.busDrives p = none ∧
      ∃ i, rowOfCycle (.write p.addr p.data) = some i ∧ s.presentBus p = { s with pending := s.pending ++ [i] }) ∧
    (p.cs = false ∨ p.rd = p.wr → p.cycle = none ∧ s.busDrives p = none ∧ s.presentBus p = s)

/-! ### Headline results -/

/-- Every step keeps the limits of the queue (R73). -/
def Obligations.EveryStepKeepsTheQueueLimits : Prop :=
  ∀ s t : State, s.queueLimits = true → step s = .next t → t.queueLimits = true

/-- Every step keeps the limits of the lists and counters, each of them by itself, and the store's canonical form: the Weak Row List (R57, R58),
the fault list and FLTLOST (R157, R159), the debts (R43), the bypass counts (R70, R87), the late and slip counts (R117). -/
def Obligations.EveryStepKeepsTheListAndCounterLimits : Prop :=
  ∀ s t : State, step s = .next t →
    (s.weakLimits = true → t.weakLimits = true) ∧ (s.faultLimits = true → t.faultLimits = true) ∧
    (s.debtLimits = true → t.debtLimits = true) ∧ (s.bypassLimits = true → t.bypassLimits = true) ∧
    (s.channelLimits = true → t.channelLimits = true) ∧ (s.store.wf = true → t.store.wf = true)

/-- Every step keeps the agreement of the modes, the banks, the queue and the data path: ABSENT exactly without the PRESENT bit and only
the bank states that the mode allows (R13, R14, R168), the queue that the mode allows (R75), the precharge-all action when the mode says
(R168), the users that a mode admits (R53, R116, R183), at most one ACTIVE record and its bank alone TRANSFERRING (R26), and the lines of
the open-row table (R23; during PRECHARGING the model's reading, entry 11). -/
def Obligations.EveryStepKeepsModesBanksAndQueueInAgreement : Prop :=
  ∀ s t : State, s.control = true → step s = .next t → t.control = true

/-- Every step keeps all that Safety.lean says of the part, with the law of the lane FIFOs (R118), the fields of the records (R70, R71), the
host buffers (R96) and the READY selections (R13, R83). -/
def Obligations.EveryStepKeepsThePartSafe : Prop :=
  ∀ s t : State, s.safe = true → step s = .next t → t.safe = true
end

