-- ==== Sys2Proof/Laws/State.lean ====
section
/-! SUPPORT. What each update of the state leaves: one lemma for each field and update, true by definition. -/

namespace Sys2Proof.Machine

/-! ### `State.raise` -/

@[simp] theorem State.raise_mode (s : State) (e : Event) : (s.raise e).mode = s.mode := rfl
@[simp] theorem State.raise_settle (s : State) (e : Event) : (s.raise e).settle = s.settle := rfl
@[simp] theorem State.raise_prechargeAll (s : State) (e : Event) : (s.raise e).prechargeAll = s.prechargeAll := rfl
@[simp] theorem State.raise_por (s : State) (e : Event) : (s.raise e).por = s.por := rfl
@[simp] theorem State.raise_pin (s : State) (e : Event) : (s.raise e).pin = s.pin := rfl
@[simp] theorem State.raise_heldPin (s : State) (e : Event) : (s.raise e).heldPin = s.heldPin := rfl
@[simp] theorem State.raise_heldPor (s : State) (e : Event) : (s.raise e).heldPor = s.heldPor := rfl
@[simp] theorem State.raise_hwakeHigh (s : State) (e : Event) : (s.raise e).hwakeHigh = s.hwakeHigh := rfl
@[simp] theorem State.raise_timing (s : State) (e : Event) : (s.raise e).timing = s.timing := rfl
@[simp] theorem State.raise_tickCount (s : State) (e : Event) : (s.raise e).tickCount = s.tickCount := rfl
@[simp] theorem State.raise_banks (s : State) (e : Event) : (s.raise e).banks = s.banks := rfl
@[simp] theorem State.raise_weak (s : State) (e : Event) : (s.raise e).weak = s.weak := rfl
@[simp] theorem State.raise_queue (s : State) (e : Event) : (s.raise e).queue = s.queue := rfl
@[simp] theorem State.raise_store (s : State) (e : Event) : (s.raise e).store = s.store := rfl
@[simp] theorem State.raise_host (s : State) (e : Event) : (s.raise e).host = s.host := rfl
@[simp] theorem State.raise_regs (s : State) (e : Event) : (s.raise e).regs = s.regs := rfl
@[simp] theorem State.raise_hostData (s : State) (e : Event) : (s.raise e).hostData = s.hostData := rfl
@[simp] theorem State.raise_chans (s : State) (e : Event) : (s.raise e).chans = s.chans := rfl
@[simp] theorem State.raise_lanePtr (s : State) (e : Event) : (s.raise e).lanePtr = s.lanePtr := rfl
@[simp] theorem State.raise_strobe (s : State) (e : Event) : (s.raise e).strobe = s.strobe := rfl
@[simp] theorem State.raise_faults (s : State) (e : Event) : (s.raise e).faults = s.faults := rfl
@[simp] theorem State.raise_fltLost (s : State) (e : Event) : (s.raise e).fltLost = s.fltLost := rfl
@[simp] theorem State.raise_faultView (s : State) (e : Event) : (s.raise e).faultView = s.faultView := rfl
@[simp] theorem State.raise_events (s : State) (e : Event) : (s.raise e).events = s.events.raise e := rfl
@[simp] theorem State.raise_pending (s : State) (e : Event) : (s.raise e).pending = s.pending := rfl
@[simp] theorem State.raise_clocks (s : State) (e : Event) : (s.raise e).clocks = s.clocks := rfl

/-! ### `State.setBank` -/

@[simp] theorem State.setBank_mode (s : State) (b : Bank) (l : BankLane) : (s.setBank b l).mode = s.mode := rfl
@[simp] theorem State.setBank_settle (s : State) (b : Bank) (l : BankLane) : (s.setBank b l).settle = s.settle := rfl
@[simp] theorem State.setBank_prechargeAll (s : State) (b : Bank) (l : BankLane) : (s.setBank b l).prechargeAll = s.prechargeAll := rfl
@[simp] theorem State.setBank_por (s : State) (b : Bank) (l : BankLane) : (s.setBank b l).por = s.por := rfl
@[simp] theorem State.setBank_pin (s : State) (b : Bank) (l : BankLane) : (s.setBank b l).pin = s.pin := rfl
@[simp] theorem State.setBank_heldPin (s : State) (b : Bank) (l : BankLane) : (s.setBank b l).heldPin = s.heldPin := rfl
@[simp] theorem State.setBank_heldPor (s : State) (b : Bank) (l : BankLane) : (s.setBank b l).heldPor = s.heldPor := rfl
@[simp] theorem State.setBank_hwakeHigh (s : State) (b : Bank) (l : BankLane) : (s.setBank b l).hwakeHigh = s.hwakeHigh := rfl
@[simp] theorem State.setBank_timing (s : State) (b : Bank) (l : BankLane) : (s.setBank b l).timing = s.timing := rfl
@[simp] theorem State.setBank_tickCount (s : State) (b : Bank) (l : BankLane) : (s.setBank b l).tickCount = s.tickCount := rfl
@[simp] theorem State.setBank_banks (s : State) (b : Bank) (l : BankLane) : (s.setBank b l).banks = s.banks.set b l := rfl
@[simp] theorem State.setBank_weak (s : State) (b : Bank) (l : BankLane) : (s.setBank b l).weak = s.weak := rfl
@[simp] theorem State.setBank_queue (s : State) (b : Bank) (l : BankLane) : (s.setBank b l).queue = s.queue := rfl
@[simp] theorem State.setBank_store (s : State) (b : Bank) (l : BankLane) : (s.setBank b l).store = s.store := rfl
@[simp] theorem State.setBank_host (s : State) (b : Bank) (l : BankLane) : (s.setBank b l).host = s.host := rfl
@[simp] theorem State.setBank_regs (s : State) (b : Bank) (l : BankLane) : (s.setBank b l).regs = s.regs := rfl
@[simp] theorem State.setBank_hostData (s : State) (b : Bank) (l : BankLane) : (s.setBank b l).hostData = s.hostData := rfl
@[simp] theorem State.setBank_chans (s : State) (b : Bank) (l : BankLane) : (s.setBank b l).chans = s.chans := rfl
@[simp] theorem State.setBank_lanePtr (s : State) (b : Bank) (l : BankLane) : (s.setBank b l).lanePtr = s.lanePtr := rfl
@[simp] theorem State.setBank_strobe (s : State) (b : Bank) (l : BankLane) : (s.setBank b l).strobe = s.strobe := rfl
@[simp] theorem State.setBank_faults (s : State) (b : Bank) (l : BankLane) : (s.setBank b l).faults = s.faults := rfl
@[simp] theorem State.setBank_fltLost (s : State) (b : Bank) (l : BankLane) : (s.setBank b l).fltLost = s.fltLost := rfl
@[simp] theorem State.setBank_faultView (s : State) (b : Bank) (l : BankLane) : (s.setBank b l).faultView = s.faultView := rfl
@[simp] theorem State.setBank_events (s : State) (b : Bank) (l : BankLane) : (s.setBank b l).events = s.events := rfl
@[simp] theorem State.setBank_pending (s : State) (b : Bank) (l : BankLane) : (s.setBank b l).pending = s.pending := rfl
@[simp] theorem State.setBank_clocks (s : State) (b : Bank) (l : BankLane) : (s.setBank b l).clocks = s.clocks := rfl

/-! ### `State.setChan` -/

@[simp] theorem State.setChan_mode (s : State) (c : Chan) (x : Channel) : (s.setChan c x).mode = s.mode := rfl
@[simp] theorem State.setChan_settle (s : State) (c : Chan) (x : Channel) : (s.setChan c x).settle = s.settle := rfl
@[simp] theorem State.setChan_prechargeAll (s : State) (c : Chan) (x : Channel) : (s.setChan c x).prechargeAll = s.prechargeAll := rfl
@[simp] theorem State.setChan_por (s : State) (c : Chan) (x : Channel) : (s.setChan c x).por = s.por := rfl
@[simp] theorem State.setChan_pin (s : State) (c : Chan) (x : Channel) : (s.setChan c x).pin = s.pin := rfl
@[simp] theorem State.setChan_heldPin (s : State) (c : Chan) (x : Channel) : (s.setChan c x).heldPin = s.heldPin := rfl
@[simp] theorem State.setChan_heldPor (s : State) (c : Chan) (x : Channel) : (s.setChan c x).heldPor = s.heldPor := rfl
@[simp] theorem State.setChan_hwakeHigh (s : State) (c : Chan) (x : Channel) : (s.setChan c x).hwakeHigh = s.hwakeHigh := rfl
@[simp] theorem State.setChan_timing (s : State) (c : Chan) (x : Channel) : (s.setChan c x).timing = s.timing := rfl
@[simp] theorem State.setChan_tickCount (s : State) (c : Chan) (x : Channel) : (s.setChan c x).tickCount = s.tickCount := rfl
@[simp] theorem State.setChan_banks (s : State) (c : Chan) (x : Channel) : (s.setChan c x).banks = s.banks := rfl
@[simp] theorem State.setChan_weak (s : State) (c : Chan) (x : Channel) : (s.setChan c x).weak = s.weak := rfl
@[simp] theorem State.setChan_queue (s : State) (c : Chan) (x : Channel) : (s.setChan c x).queue = s.queue := rfl
@[simp] theorem State.setChan_store (s : State) (c : Chan) (x : Channel) : (s.setChan c x).store = s.store := rfl
@[simp] theorem State.setChan_host (s : State) (c : Chan) (x : Channel) : (s.setChan c x).host = s.host := rfl
@[simp] theorem State.setChan_regs (s : State) (c : Chan) (x : Channel) : (s.setChan c x).regs = s.regs := rfl
@[simp] theorem State.setChan_hostData (s : State) (c : Chan) (x : Channel) : (s.setChan c x).hostData = s.hostData := rfl
@[simp] theorem State.setChan_chans (s : State) (c : Chan) (x : Channel) : (s.setChan c x).chans = s.chans.set c x := rfl
@[simp] theorem State.setChan_lanePtr (s : State) (c : Chan) (x : Channel) : (s.setChan c x).lanePtr = s.lanePtr := rfl
@[simp] theorem State.setChan_strobe (s : State) (c : Chan) (x : Channel) : (s.setChan c x).strobe = s.strobe := rfl
@[simp] theorem State.setChan_faults (s : State) (c : Chan) (x : Channel) : (s.setChan c x).faults = s.faults := rfl
@[simp] theorem State.setChan_fltLost (s : State) (c : Chan) (x : Channel) : (s.setChan c x).fltLost = s.fltLost := rfl
@[simp] theorem State.setChan_faultView (s : State) (c : Chan) (x : Channel) : (s.setChan c x).faultView = s.faultView := rfl
@[simp] theorem State.setChan_events (s : State) (c : Chan) (x : Channel) : (s.setChan c x).events = s.events := rfl
@[simp] theorem State.setChan_pending (s : State) (c : Chan) (x : Channel) : (s.setChan c x).pending = s.pending := rfl
@[simp] theorem State.setChan_clocks (s : State) (c : Chan) (x : Channel) : (s.setChan c x).clocks = s.clocks := rfl

/-! ### `State.join` -/

@[simp] theorem State.join_mode (s : State) (r : Record) : (s.join r).mode = s.mode := rfl
@[simp] theorem State.join_settle (s : State) (r : Record) : (s.join r).settle = s.settle := rfl
@[simp] theorem State.join_prechargeAll (s : State) (r : Record) : (s.join r).prechargeAll = s.prechargeAll := rfl
@[simp] theorem State.join_por (s : State) (r : Record) : (s.join r).por = s.por := rfl
@[simp] theorem State.join_pin (s : State) (r : Record) : (s.join r).pin = s.pin := rfl
@[simp] theorem State.join_heldPin (s : State) (r : Record) : (s.join r).heldPin = s.heldPin := rfl
@[simp] theorem State.join_heldPor (s : State) (r : Record) : (s.join r).heldPor = s.heldPor := rfl
@[simp] theorem State.join_hwakeHigh (s : State) (r : Record) : (s.join r).hwakeHigh = s.hwakeHigh := rfl
@[simp] theorem State.join_timing (s : State) (r : Record) : (s.join r).timing = s.timing := rfl
@[simp] theorem State.join_tickCount (s : State) (r : Record) : (s.join r).tickCount = s.tickCount := rfl
@[simp] theorem State.join_banks (s : State) (r : Record) : (s.join r).banks = s.banks := rfl
@[simp] theorem State.join_weak (s : State) (r : Record) : (s.join r).weak = s.weak := rfl
@[simp] theorem State.join_queue (s : State) (r : Record) : (s.join r).queue = s.queue ++ [r] := rfl
@[simp] theorem State.join_store (s : State) (r : Record) : (s.join r).store = s.store := rfl
@[simp] theorem State.join_host (s : State) (r : Record) : (s.join r).host = s.host := rfl
@[simp] theorem State.join_regs (s : State) (r : Record) : (s.join r).regs = s.regs := rfl
@[simp] theorem State.join_hostData (s : State) (r : Record) : (s.join r).hostData = s.hostData := rfl
@[simp] theorem State.join_chans (s : State) (r : Record) : (s.join r).chans = s.chans := rfl
@[simp] theorem State.join_lanePtr (s : State) (r : Record) : (s.join r).lanePtr = s.lanePtr := rfl
@[simp] theorem State.join_strobe (s : State) (r : Record) : (s.join r).strobe = s.strobe := rfl
@[simp] theorem State.join_faults (s : State) (r : Record) : (s.join r).faults = s.faults := rfl
@[simp] theorem State.join_fltLost (s : State) (r : Record) : (s.join r).fltLost = s.fltLost := rfl
@[simp] theorem State.join_faultView (s : State) (r : Record) : (s.join r).faultView = s.faultView := rfl
@[simp] theorem State.join_events (s : State) (r : Record) : (s.join r).events = s.events := rfl
@[simp] theorem State.join_pending (s : State) (r : Record) : (s.join r).pending = s.pending := rfl
@[simp] theorem State.join_clocks (s : State) (r : Record) : (s.join r).clocks = s.clocks := rfl

/-! ### `State.takePending` -/

@[simp] theorem State.takePending_mode (s : State) (rest : List Instr) : (s.takePending rest).mode = s.mode := rfl
@[simp] theorem State.takePending_settle (s : State) (rest : List Instr) : (s.takePending rest).settle = s.settle := rfl
@[simp] theorem State.takePending_prechargeAll (s : State) (rest : List Instr) : (s.takePending rest).prechargeAll = s.prechargeAll := rfl
@[simp] theorem State.takePending_por (s : State) (rest : List Instr) : (s.takePending rest).por = s.por := rfl
@[simp] theorem State.takePending_pin (s : State) (rest : List Instr) : (s.takePending rest).pin = s.pin := rfl
@[simp] theorem State.takePending_heldPin (s : State) (rest : List Instr) : (s.takePending rest).heldPin = s.heldPin := rfl
@[simp] theorem State.takePending_heldPor (s : State) (rest : List Instr) : (s.takePending rest).heldPor = s.heldPor := rfl
@[simp] theorem State.takePending_hwakeHigh (s : State) (rest : List Instr) : (s.takePending rest).hwakeHigh = s.hwakeHigh := rfl
@[simp] theorem State.takePending_timing (s : State) (rest : List Instr) : (s.takePending rest).timing = s.timing := rfl
@[simp] theorem State.takePending_tickCount (s : State) (rest : List Instr) : (s.takePending rest).tickCount = s.tickCount := rfl
@[simp] theorem State.takePending_banks (s : State) (rest : List Instr) : (s.takePending rest).banks = s.banks := rfl
@[simp] theorem State.takePending_weak (s : State) (rest : List Instr) : (s.takePending rest).weak = s.weak := rfl
@[simp] theorem State.takePending_queue (s : State) (rest : List Instr) : (s.takePending rest).queue = s.queue := rfl
@[simp] theorem State.takePending_store (s : State) (rest : List Instr) : (s.takePending rest).store = s.store := rfl
@[simp] theorem State.takePending_host (s : State) (rest : List Instr) : (s.takePending rest).host = s.host := rfl
@[simp] theorem State.takePending_regs (s : State) (rest : List Instr) : (s.takePending rest).regs = s.regs := rfl
@[simp] theorem State.takePending_hostData (s : State) (rest : List Instr) : (s.takePending rest).hostData = s.hostData := rfl
@[simp] theorem State.takePending_chans (s : State) (rest : List Instr) : (s.takePending rest).chans = s.chans := rfl
@[simp] theorem State.takePending_lanePtr (s : State) (rest : List Instr) : (s.takePending rest).lanePtr = s.lanePtr := rfl
@[simp] theorem State.takePending_strobe (s : State) (rest : List Instr) : (s.takePending rest).strobe = s.strobe := rfl
@[simp] theorem State.takePending_faults (s : State) (rest : List Instr) : (s.takePending rest).faults = s.faults := rfl
@[simp] theorem State.takePending_fltLost (s : State) (rest : List Instr) : (s.takePending rest).fltLost = s.fltLost := rfl
@[simp] theorem State.takePending_faultView (s : State) (rest : List Instr) : (s.takePending rest).faultView = s.faultView := rfl
@[simp] theorem State.takePending_events (s : State) (rest : List Instr) : (s.takePending rest).events = s.events := rfl
@[simp] theorem State.takePending_pending (s : State) (rest : List Instr) : (s.takePending rest).pending = rest := rfl
@[simp] theorem State.takePending_clocks (s : State) (rest : List Instr) : (s.takePending rest).clocks = s.clocks := rfl

/-! ### `State.dropSelection` -/

@[simp] theorem State.dropSelection_mode (s : State) (b : Bank) : (s.dropSelection b).mode = s.mode := rfl
@[simp] theorem State.dropSelection_settle (s : State) (b : Bank) : (s.dropSelection b).settle = s.settle := rfl
@[simp] theorem State.dropSelection_prechargeAll (s : State) (b : Bank) : (s.dropSelection b).prechargeAll = s.prechargeAll := rfl
@[simp] theorem State.dropSelection_por (s : State) (b : Bank) : (s.dropSelection b).por = s.por := rfl
@[simp] theorem State.dropSelection_pin (s : State) (b : Bank) : (s.dropSelection b).pin = s.pin := rfl
@[simp] theorem State.dropSelection_heldPin (s : State) (b : Bank) : (s.dropSelection b).heldPin = s.heldPin := rfl
@[simp] theorem State.dropSelection_heldPor (s : State) (b : Bank) : (s.dropSelection b).heldPor = s.heldPor := rfl
@[simp] theorem State.dropSelection_hwakeHigh (s : State) (b : Bank) : (s.dropSelection b).hwakeHigh = s.hwakeHigh := rfl
@[simp] theorem State.dropSelection_timing (s : State) (b : Bank) : (s.dropSelection b).timing = s.timing := rfl
@[simp] theorem State.dropSelection_tickCount (s : State) (b : Bank) : (s.dropSelection b).tickCount = s.tickCount := rfl
@[simp] theorem State.dropSelection_banks (s : State) (b : Bank) : (s.dropSelection b).banks = s.banks := rfl
@[simp] theorem State.dropSelection_weak (s : State) (b : Bank) : (s.dropSelection b).weak = s.weak := rfl
@[simp] theorem State.dropSelection_queue (s : State) (b : Bank) : (s.dropSelection b).queue = s.queue.map fun r => if r.bank = b then { r with selected := none } else r := rfl
@[simp] theorem State.dropSelection_store (s : State) (b : Bank) : (s.dropSelection b).store = s.store := rfl
@[simp] theorem State.dropSelection_host (s : State) (b : Bank) : (s.dropSelection b).host = s.host := rfl
@[simp] theorem State.dropSelection_regs (s : State) (b : Bank) : (s.dropSelection b).regs = s.regs := rfl
@[simp] theorem State.dropSelection_hostData (s : State) (b : Bank) : (s.dropSelection b).hostData = s.hostData := rfl
@[simp] theorem State.dropSelection_chans (s : State) (b : Bank) : (s.dropSelection b).chans = s.chans := rfl
@[simp] theorem State.dropSelection_lanePtr (s : State) (b : Bank) : (s.dropSelection b).lanePtr = s.lanePtr := rfl
@[simp] theorem State.dropSelection_strobe (s : State) (b : Bank) : (s.dropSelection b).strobe = s.strobe := rfl
@[simp] theorem State.dropSelection_faults (s : State) (b : Bank) : (s.dropSelection b).faults = s.faults := rfl
@[simp] theorem State.dropSelection_fltLost (s : State) (b : Bank) : (s.dropSelection b).fltLost = s.fltLost := rfl
@[simp] theorem State.dropSelection_faultView (s : State) (b : Bank) : (s.dropSelection b).faultView = s.faultView := rfl
@[simp] theorem State.dropSelection_events (s : State) (b : Bank) : (s.dropSelection b).events = s.events := rfl
@[simp] theorem State.dropSelection_pending (s : State) (b : Bank) : (s.dropSelection b).pending = s.pending := rfl
@[simp] theorem State.dropSelection_clocks (s : State) (b : Bank) : (s.dropSelection b).clocks = s.clocks := rfl

/-! ### `State.select` -/

@[simp] theorem State.select_mode (s : State) (line : ChoiceLine) (i : Nat) : (s.select line i).mode = s.mode := rfl
@[simp] theorem State.select_settle (s : State) (line : ChoiceLine) (i : Nat) : (s.select line i).settle = s.settle := rfl
@[simp] theorem State.select_prechargeAll (s : State) (line : ChoiceLine) (i : Nat) : (s.select line i).prechargeAll = s.prechargeAll := rfl
@[simp] theorem State.select_por (s : State) (line : ChoiceLine) (i : Nat) : (s.select line i).por = s.por := rfl
@[simp] theorem State.select_pin (s : State) (line : ChoiceLine) (i : Nat) : (s.select line i).pin = s.pin := rfl
@[simp] theorem State.select_heldPin (s : State) (line : ChoiceLine) (i : Nat) : (s.select line i).heldPin = s.heldPin := rfl
@[simp] theorem State.select_heldPor (s : State) (line : ChoiceLine) (i : Nat) : (s.select line i).heldPor = s.heldPor := rfl
@[simp] theorem State.select_hwakeHigh (s : State) (line : ChoiceLine) (i : Nat) : (s.select line i).hwakeHigh = s.hwakeHigh := rfl
@[simp] theorem State.select_timing (s : State) (line : ChoiceLine) (i : Nat) : (s.select line i).timing = s.timing := rfl
@[simp] theorem State.select_tickCount (s : State) (line : ChoiceLine) (i : Nat) : (s.select line i).tickCount = s.tickCount := rfl
@[simp] theorem State.select_banks (s : State) (line : ChoiceLine) (i : Nat) : (s.select line i).banks = s.banks := rfl
@[simp] theorem State.select_weak (s : State) (line : ChoiceLine) (i : Nat) : (s.select line i).weak = s.weak := rfl
@[simp] theorem State.select_queue (s : State) (line : ChoiceLine) (i : Nat) : (s.select line i).queue = s.queue.modify i fun r => { r with selected := some line } := rfl
@[simp] theorem State.select_store (s : State) (line : ChoiceLine) (i : Nat) : (s.select line i).store = s.store := rfl
@[simp] theorem State.select_host (s : State) (line : ChoiceLine) (i : Nat) : (s.select line i).host = s.host := rfl
@[simp] theorem State.select_regs (s : State) (line : ChoiceLine) (i : Nat) : (s.select line i).regs = s.regs := rfl
@[simp] theorem State.select_hostData (s : State) (line : ChoiceLine) (i : Nat) : (s.select line i).hostData = s.hostData := rfl
@[simp] theorem State.select_chans (s : State) (line : ChoiceLine) (i : Nat) : (s.select line i).chans = s.chans := rfl
@[simp] theorem State.select_lanePtr (s : State) (line : ChoiceLine) (i : Nat) : (s.select line i).lanePtr = s.lanePtr := rfl
@[simp] theorem State.select_strobe (s : State) (line : ChoiceLine) (i : Nat) : (s.select line i).strobe = s.strobe := rfl
@[simp] theorem State.select_faults (s : State) (line : ChoiceLine) (i : Nat) : (s.select line i).faults = s.faults := rfl
@[simp] theorem State.select_fltLost (s : State) (line : ChoiceLine) (i : Nat) : (s.select line i).fltLost = s.fltLost := rfl
@[simp] theorem State.select_faultView (s : State) (line : ChoiceLine) (i : Nat) : (s.select line i).faultView = s.faultView := rfl
@[simp] theorem State.select_events (s : State) (line : ChoiceLine) (i : Nat) : (s.select line i).events = s.events := rfl
@[simp] theorem State.select_pending (s : State) (line : ChoiceLine) (i : Nat) : (s.select line i).pending = s.pending := rfl
@[simp] theorem State.select_clocks (s : State) (line : ChoiceLine) (i : Nat) : (s.select line i).clocks = s.clocks := rfl

/-! ### `State.removeAt` -/

@[simp] theorem State.removeAt_mode (s : State) (i : Nat) : (s.removeAt i).mode = s.mode := rfl
@[simp] theorem State.removeAt_settle (s : State) (i : Nat) : (s.removeAt i).settle = s.settle := rfl
@[simp] theorem State.removeAt_prechargeAll (s : State) (i : Nat) : (s.removeAt i).prechargeAll = s.prechargeAll := rfl
@[simp] theorem State.removeAt_por (s : State) (i : Nat) : (s.removeAt i).por = s.por := rfl
@[simp] theorem State.removeAt_pin (s : State) (i : Nat) : (s.removeAt i).pin = s.pin := rfl
@[simp] theorem State.removeAt_heldPin (s : State) (i : Nat) : (s.removeAt i).heldPin = s.heldPin := rfl
@[simp] theorem State.removeAt_heldPor (s : State) (i : Nat) : (s.removeAt i).heldPor = s.heldPor := rfl
@[simp] theorem State.removeAt_hwakeHigh (s : State) (i : Nat) : (s.removeAt i).hwakeHigh = s.hwakeHigh := rfl
@[simp] theorem State.removeAt_timing (s : State) (i : Nat) : (s.removeAt i).timing = s.timing := rfl
@[simp] theorem State.removeAt_tickCount (s : State) (i : Nat) : (s.removeAt i).tickCount = s.tickCount := rfl
@[simp] theorem State.removeAt_banks (s : State) (i : Nat) : (s.removeAt i).banks = s.banks := rfl
@[simp] theorem State.removeAt_weak (s : State) (i : Nat) : (s.removeAt i).weak = s.weak := rfl
@[simp] theorem State.removeAt_queue (s : State) (i : Nat) : (s.removeAt i).queue = s.queue.eraseIdx i := rfl
@[simp] theorem State.removeAt_store (s : State) (i : Nat) : (s.removeAt i).store = s.store := rfl
@[simp] theorem State.removeAt_host (s : State) (i : Nat) : (s.removeAt i).host = s.host := rfl
@[simp] theorem State.removeAt_regs (s : State) (i : Nat) : (s.removeAt i).regs = s.regs := rfl
@[simp] theorem State.removeAt_hostData (s : State) (i : Nat) : (s.removeAt i).hostData = s.hostData := rfl
@[simp] theorem State.removeAt_chans (s : State) (i : Nat) : (s.removeAt i).chans = s.chans := rfl
@[simp] theorem State.removeAt_lanePtr (s : State) (i : Nat) : (s.removeAt i).lanePtr = s.lanePtr := rfl
@[simp] theorem State.removeAt_strobe (s : State) (i : Nat) : (s.removeAt i).strobe = s.strobe := rfl
@[simp] theorem State.removeAt_faults (s : State) (i : Nat) : (s.removeAt i).faults = s.faults := rfl
@[simp] theorem State.removeAt_fltLost (s : State) (i : Nat) : (s.removeAt i).fltLost = s.fltLost := rfl
@[simp] theorem State.removeAt_faultView (s : State) (i : Nat) : (s.removeAt i).faultView = s.faultView := rfl
@[simp] theorem State.removeAt_events (s : State) (i : Nat) : (s.removeAt i).events = s.events := rfl
@[simp] theorem State.removeAt_pending (s : State) (i : Nat) : (s.removeAt i).pending = s.pending := rfl
@[simp] theorem State.removeAt_clocks (s : State) (i : Nat) : (s.removeAt i).clocks = s.clocks := rfl

/-! ### `State.putWord` -/

@[simp] theorem State.putWord_mode (s : State) (r : Record) (w : StoreWord) : (s.putWord r w).mode = s.mode := rfl
@[simp] theorem State.putWord_settle (s : State) (r : Record) (w : StoreWord) : (s.putWord r w).settle = s.settle := rfl
@[simp] theorem State.putWord_prechargeAll (s : State) (r : Record) (w : StoreWord) : (s.putWord r w).prechargeAll = s.prechargeAll := rfl
@[simp] theorem State.putWord_por (s : State) (r : Record) (w : StoreWord) : (s.putWord r w).por = s.por := rfl
@[simp] theorem State.putWord_pin (s : State) (r : Record) (w : StoreWord) : (s.putWord r w).pin = s.pin := rfl
@[simp] theorem State.putWord_heldPin (s : State) (r : Record) (w : StoreWord) : (s.putWord r w).heldPin = s.heldPin := rfl
@[simp] theorem State.putWord_heldPor (s : State) (r : Record) (w : StoreWord) : (s.putWord r w).heldPor = s.heldPor := rfl
@[simp] theorem State.putWord_hwakeHigh (s : State) (r : Record) (w : StoreWord) : (s.putWord r w).hwakeHigh = s.hwakeHigh := rfl
@[simp] theorem State.putWord_timing (s : State) (r : Record) (w : StoreWord) : (s.putWord r w).timing = s.timing := rfl
@[simp] theorem State.putWord_tickCount (s : State) (r : Record) (w : StoreWord) : (s.putWord r w).tickCount = s.tickCount := rfl
@[simp] theorem State.putWord_banks (s : State) (r : Record) (w : StoreWord) : (s.putWord r w).banks = s.banks := rfl
@[simp] theorem State.putWord_weak (s : State) (r : Record) (w : StoreWord) : (s.putWord r w).weak = s.weak := rfl
@[simp] theorem State.putWord_queue (s : State) (r : Record) (w : StoreWord) : (s.putWord r w).queue = s.queue := rfl
@[simp] theorem State.putWord_store (s : State) (r : Record) (w : StoreWord) : (s.putWord r w).store = s.store.write r.bank r.nextRow r.nextCol w := rfl
@[simp] theorem State.putWord_host (s : State) (r : Record) (w : StoreWord) : (s.putWord r w).host = s.host := rfl
@[simp] theorem State.putWord_regs (s : State) (r : Record) (w : StoreWord) : (s.putWord r w).regs = s.regs := rfl
@[simp] theorem State.putWord_hostData (s : State) (r : Record) (w : StoreWord) : (s.putWord r w).hostData = s.hostData := rfl
@[simp] theorem State.putWord_chans (s : State) (r : Record) (w : StoreWord) : (s.putWord r w).chans = s.chans := rfl
@[simp] theorem State.putWord_lanePtr (s : State) (r : Record) (w : StoreWord) : (s.putWord r w).lanePtr = s.lanePtr := rfl
@[simp] theorem State.putWord_strobe (s : State) (r : Record) (w : StoreWord) : (s.putWord r w).strobe = s.strobe := rfl
@[simp] theorem State.putWord_faults (s : State) (r : Record) (w : StoreWord) : (s.putWord r w).faults = s.faults := rfl
@[simp] theorem State.putWord_fltLost (s : State) (r : Record) (w : StoreWord) : (s.putWord r w).fltLost = s.fltLost := rfl
@[simp] theorem State.putWord_faultView (s : State) (r : Record) (w : StoreWord) : (s.putWord r w).faultView = s.faultView := rfl
@[simp] theorem State.putWord_events (s : State) (r : Record) (w : StoreWord) : (s.putWord r w).events = s.events := rfl
@[simp] theorem State.putWord_pending (s : State) (r : Record) (w : StoreWord) : (s.putWord r w).pending = s.pending := rfl
@[simp] theorem State.putWord_clocks (s : State) (r : Record) (w : StoreWord) : (s.putWord r w).clocks = s.clocks := rfl

/-! ### `State.reportSpot` -/

@[simp] theorem State.reportSpot_mode (s : State) (b : Bank) (row : Row) : (s.reportSpot b row).mode = s.mode := rfl
@[simp] theorem State.reportSpot_settle (s : State) (b : Bank) (row : Row) : (s.reportSpot b row).settle = s.settle := rfl
@[simp] theorem State.reportSpot_prechargeAll (s : State) (b : Bank) (row : Row) : (s.reportSpot b row).prechargeAll = s.prechargeAll := rfl
@[simp] theorem State.reportSpot_por (s : State) (b : Bank) (row : Row) : (s.reportSpot b row).por = s.por := rfl
@[simp] theorem State.reportSpot_pin (s : State) (b : Bank) (row : Row) : (s.reportSpot b row).pin = s.pin := rfl
@[simp] theorem State.reportSpot_heldPin (s : State) (b : Bank) (row : Row) : (s.reportSpot b row).heldPin = s.heldPin := rfl
@[simp] theorem State.reportSpot_heldPor (s : State) (b : Bank) (row : Row) : (s.reportSpot b row).heldPor = s.heldPor := rfl
@[simp] theorem State.reportSpot_hwakeHigh (s : State) (b : Bank) (row : Row) : (s.reportSpot b row).hwakeHigh = s.hwakeHigh := rfl
@[simp] theorem State.reportSpot_timing (s : State) (b : Bank) (row : Row) : (s.reportSpot b row).timing = s.timing := rfl
@[simp] theorem State.reportSpot_tickCount (s : State) (b : Bank) (row : Row) : (s.reportSpot b row).tickCount = s.tickCount := rfl
@[simp] theorem State.reportSpot_banks (s : State) (b : Bank) (row : Row) : (s.reportSpot b row).banks = s.banks := rfl
@[simp] theorem State.reportSpot_weak (s : State) (b : Bank) (row : Row) : (s.reportSpot b row).weak = s.weak.map fun e => if e.bank = b ∧ e.row = row then { e with pending := false } else e := rfl
@[simp] theorem State.reportSpot_queue (s : State) (b : Bank) (row : Row) : (s.reportSpot b row).queue = s.queue := rfl
@[simp] theorem State.reportSpot_store (s : State) (b : Bank) (row : Row) : (s.reportSpot b row).store = s.store := rfl
@[simp] theorem State.reportSpot_host (s : State) (b : Bank) (row : Row) : (s.reportSpot b row).host = s.host := rfl
@[simp] theorem State.reportSpot_regs (s : State) (b : Bank) (row : Row) : (s.reportSpot b row).regs = s.regs := rfl
@[simp] theorem State.reportSpot_hostData (s : State) (b : Bank) (row : Row) : (s.reportSpot b row).hostData = s.hostData := rfl
@[simp] theorem State.reportSpot_chans (s : State) (b : Bank) (row : Row) : (s.reportSpot b row).chans = s.chans := rfl
@[simp] theorem State.reportSpot_lanePtr (s : State) (b : Bank) (row : Row) : (s.reportSpot b row).lanePtr = s.lanePtr := rfl
@[simp] theorem State.reportSpot_strobe (s : State) (b : Bank) (row : Row) : (s.reportSpot b row).strobe = s.strobe := rfl
@[simp] theorem State.reportSpot_faults (s : State) (b : Bank) (row : Row) : (s.reportSpot b row).faults = s.faults := rfl
@[simp] theorem State.reportSpot_fltLost (s : State) (b : Bank) (row : Row) : (s.reportSpot b row).fltLost = s.fltLost := rfl
@[simp] theorem State.reportSpot_faultView (s : State) (b : Bank) (row : Row) : (s.reportSpot b row).faultView = s.faultView := rfl
@[simp] theorem State.reportSpot_events (s : State) (b : Bank) (row : Row) : (s.reportSpot b row).events = s.events := rfl
@[simp] theorem State.reportSpot_pending (s : State) (b : Bank) (row : Row) : (s.reportSpot b row).pending = s.pending := rfl
@[simp] theorem State.reportSpot_clocks (s : State) (b : Bank) (row : Row) : (s.reportSpot b row).clocks = s.clocks := rfl

/-! ### `State.advanceIndex` -/

@[simp] theorem State.advanceIndex_mode (s : State) : (s.advanceIndex).mode = s.mode := rfl
@[simp] theorem State.advanceIndex_settle (s : State) : (s.advanceIndex).settle = s.settle := rfl
@[simp] theorem State.advanceIndex_prechargeAll (s : State) : (s.advanceIndex).prechargeAll = s.prechargeAll := rfl
@[simp] theorem State.advanceIndex_por (s : State) : (s.advanceIndex).por = s.por := rfl
@[simp] theorem State.advanceIndex_pin (s : State) : (s.advanceIndex).pin = s.pin := rfl
@[simp] theorem State.advanceIndex_heldPin (s : State) : (s.advanceIndex).heldPin = s.heldPin := rfl
@[simp] theorem State.advanceIndex_heldPor (s : State) : (s.advanceIndex).heldPor = s.heldPor := rfl
@[simp] theorem State.advanceIndex_hwakeHigh (s : State) : (s.advanceIndex).hwakeHigh = s.hwakeHigh := rfl
@[simp] theorem State.advanceIndex_timing (s : State) : (s.advanceIndex).timing = s.timing := rfl
@[simp] theorem State.advanceIndex_tickCount (s : State) : (s.advanceIndex).tickCount = s.tickCount := rfl
@[simp] theorem State.advanceIndex_banks (s : State) : (s.advanceIndex).banks = s.banks := rfl
@[simp] theorem State.advanceIndex_weak (s : State) : (s.advanceIndex).weak = s.weak := rfl
@[simp] theorem State.advanceIndex_queue (s : State) : (s.advanceIndex).queue = s.queue := rfl
@[simp] theorem State.advanceIndex_store (s : State) : (s.advanceIndex).store = s.store := rfl
@[simp] theorem State.advanceIndex_host (s : State) : (s.advanceIndex).host = s.host := rfl
@[simp] theorem State.advanceIndex_regs (s : State) : (s.advanceIndex).regs = s.regs.advance := rfl
@[simp] theorem State.advanceIndex_hostData (s : State) : (s.advanceIndex).hostData = s.hostData := rfl
@[simp] theorem State.advanceIndex_chans (s : State) : (s.advanceIndex).chans = s.chans := rfl
@[simp] theorem State.advanceIndex_lanePtr (s : State) : (s.advanceIndex).lanePtr = s.lanePtr := rfl
@[simp] theorem State.advanceIndex_strobe (s : State) : (s.advanceIndex).strobe = s.strobe := rfl
@[simp] theorem State.advanceIndex_faults (s : State) : (s.advanceIndex).faults = s.faults := rfl
@[simp] theorem State.advanceIndex_fltLost (s : State) : (s.advanceIndex).fltLost = s.fltLost := rfl
@[simp] theorem State.advanceIndex_faultView (s : State) : (s.advanceIndex).faultView = s.faultView := rfl
@[simp] theorem State.advanceIndex_events (s : State) : (s.advanceIndex).events = s.events := rfl
@[simp] theorem State.advanceIndex_pending (s : State) : (s.advanceIndex).pending = s.pending := rfl
@[simp] theorem State.advanceIndex_clocks (s : State) : (s.advanceIndex).clocks = s.clocks := rfl

/-! ### Banks and channels -/

@[simp] theorem PerBank.get_set_same {α : Type} (p : PerBank α) (b : Bank) (x : α) : (p.set b x).get b = x := by
  cases b <;> rfl

theorem PerBank.get_set_other {α : Type} (p : PerBank α) {b b' : Bank} (x : α) (h : b' ≠ b) :
    (p.set b x).get b' = p.get b' := by
  cases b <;> cases b' <;> first | rfl | exact absurd rfl h

@[simp] theorem PerBank.get_map {α β : Type} (f : Bank → α → β) (p : PerBank α) (b : Bank) :
    (p.map f).get b = f b (p.get b) := by
  cases b <;> rfl

@[simp] theorem PerBank.get_same {α : Type} (x : α) (b : Bank) : (PerBank.same x).get b = x := by cases b <;> rfl

theorem PerBank.ext_get {α : Type} {p q : PerBank α} (h : ∀ b, p.get b = q.get b) : p = q := by
  have h0 := h .b0; have h1 := h .b1; have h2 := h .b2; have h3 := h .b3
  cases p; cases q; simp_all [PerBank.get]

@[simp] theorem PerChan.get_set_same {α : Type} (p : PerChan α) (c : Chan) (x : α) : (p.set c x).get c = x := by
  cases c <;> rfl

theorem PerChan.get_set_other {α : Type} (p : PerChan α) {c c' : Chan} (x : α) (h : c' ≠ c) :
    (p.set c x).get c' = p.get c' := by
  cases c <;> cases c' <;> first | rfl | exact absurd rfl h

@[simp] theorem PerChan.get_map {α β : Type} (f : Chan → α → β) (p : PerChan α) (c : Chan) :
    (p.map f).get c = f c (p.get c) := by
  cases c <;> rfl

@[simp] theorem PerChan.get_same {α : Type} (x : α) (c : Chan) : (PerChan.same x).get c = x := by cases c <;> rfl

theorem PerChan.ext_get {α : Type} {p q : PerChan α} (h : ∀ c, p.get c = q.get c) : p = q := by
  have h0 := h .c0; have h1 := h .c1; have h2 := h .c2
  cases p; cases q; simp_all [PerChan.get]

@[simp] theorem State.bank_setBank_same (s : State) (b : Bank) (l : BankLane) : (s.setBank b l).bank b = l :=
  PerBank.get_set_same ..

theorem State.bank_setBank_other (s : State) {b b' : Bank} (l : BankLane) (h : b' ≠ b) :
    (s.setBank b l).bank b' = s.bank b' :=
  PerBank.get_set_other _ _ h

@[simp] theorem State.chan_setChan_same (s : State) (c : Chan) (x : Channel) : (s.setChan c x).chan c = x :=
  PerChan.get_set_same ..

theorem State.chan_setChan_other (s : State) {c c' : Chan} (x : Channel) (h : c' ≠ c) :
    (s.setChan c x).chan c' = s.chan c' :=
  PerChan.get_set_other _ _ h

@[simp] theorem State.chan_setBank (s : State) (b : Bank) (l : BankLane) (c : Chan) : (s.setBank b l).chan c = s.chan c := rfl
@[simp] theorem State.bank_setChan (s : State) (c : Chan) (x : Channel) (b : Bank) : (s.setChan c x).bank b = s.bank b := rfl
@[simp] theorem State.bank_raise (s : State) (e : Event) (b : Bank) : (s.raise e).bank b = s.bank b := rfl
@[simp] theorem State.chan_raise (s : State) (e : Event) (c : Chan) : (s.raise e).chan c = s.chan c := rfl
@[simp] theorem State.bank_dropSelection (s : State) (b b' : Bank) : (s.dropSelection b).bank b' = s.bank b' := rfl
@[simp] theorem State.bank_select (s : State) (line : ChoiceLine) (i : Nat) (b : Bank) : (s.select line i).bank b = s.bank b := rfl
@[simp] theorem State.bank_join (s : State) (r : Record) (b : Bank) : (s.join r).bank b = s.bank b := rfl

@[simp] theorem State.raiseIf_true (s : State) (e : Event) : s.raiseIf true e = s.raise e := rfl
@[simp] theorem State.raiseIf_false (s : State) (e : Event) : s.raiseIf false e = s := rfl
@[simp] theorem State.recordFaultIf_true (s : State) (f : FaultRecord) : s.recordFaultIf true f = s.recordFault f := rfl
@[simp] theorem State.recordFaultIf_false (s : State) (f : FaultRecord) : s.recordFaultIf false f = s := rfl

/-- A step while no reset is in force has its effect. -/
theorem State.outOfReset_of_not {s : State} (h : s.inReset = false) (f : State → State) : s.outOfReset f = f s := by
  simp [State.outOfReset, h]

/-- A step while a reset is in force has none. -/
theorem State.outOfReset_of_inReset {s : State} (h : s.inReset = true) (f : State → State) : s.outOfReset f = s := by
  simp [State.outOfReset, h]

/-! ### The lane of a bank -/

@[simp] theorem BankLane.enter_state (l : BankLane) (st : BankState) : (l.enter st).state = st := rfl
@[simp] theorem BankLane.enter_elapsed (l : BankLane) (st : BankState) : (l.enter st).elapsed = 0 := rfl
@[simp] theorem BankLane.enter_line (l : BankLane) (st : BankState) : (l.enter st).line = l.line := rfl
@[simp] theorem BankLane.enter_pointer (l : BankLane) (st : BankState) : (l.enter st).pointer = l.pointer := rfl
@[simp] theorem BankLane.enter_debt (l : BankLane) (st : BankState) : (l.enter st).debt = l.debt := rfl
@[simp] theorem BankLane.enter_paused (l : BankLane) (st : BankState) : (l.enter st).paused = l.paused := rfl
@[simp] theorem BankLane.enter_lost (l : BankLane) (st : BankState) : (l.enter st).lost = l.lost := rfl

end Sys2Proof.Machine
end

