-- ==== Sys2Proof/Laws/Ops.lean ====
section
/-! SUPPORT. What the shared operations beside the scheduler can do, said once each: a fault report, a command, the reports to
the Weak Row List, a flush and a withdrawal. -/

namespace Sys2Proof.Machine

/-! ### Fault reports -/

/-- A fault report does one of three things (R158). -/
theorem State.recordFault_cases (s : State) (f : FaultRecord) :
    (s.faults.any f.same = true ∧
      s.recordFault f = { s with faults := s.faults.map fun g => if f.same g then g.again else g }) ∨
    (s.faults.any f.same = false ∧ s.faults.length < 8 ∧
      s.recordFault f = State.raise { s with faults := s.faults ++ [f] } .fltNew) ∨
    (s.faults.any f.same = false ∧ 8 ≤ s.faults.length ∧
      s.recordFault f = State.raise { s with fltLost := min 255 (s.fltLost + 1) } .fltOvf) := by
  unfold State.recordFault
  by_cases h : s.faults.any f.same = true
  · exact Or.inl ⟨h, if_pos h⟩
  · have h' : s.faults.any f.same = false := by simpa using h
    rw [if_neg h]
    by_cases h8 : s.faults.length < 8
    · exact Or.inr (Or.inl ⟨h', h8, if_pos h8⟩)
    · exact Or.inr (Or.inr ⟨h', by omega, if_neg h8⟩)

/-- A fault report changes the fault list, FLTLOST and the flags alone. -/
theorem State.recordFault_frame (s : State) (f : FaultRecord) :
    s.recordFault f = { s with
      faults := (s.recordFault f).faults, fltLost := (s.recordFault f).fltLost, events := (s.recordFault f).events } := by
  rcases s.recordFault_cases f with ⟨_, h⟩ | ⟨_, _, h⟩ | ⟨_, _, h⟩ <;> rw [h] <;> rfl

/-! ### Commands -/

/-- A command is ignored in a reset, refused by the mode, refused by a check, or taken (R183, R187). -/
theorem State.command_cases (s : State) (taken : List Mode) (q : Result) (check : State → Option Result)
    (effect : State → State) :
    (s.inReset = true ∧ s.command taken q check effect = s) ∨
    (s.inReset = false ∧ ∃ r, modeTest s.mode taken q = some r ∧ s.command taken q check effect = s.refuse r) ∨
    (s.inReset = false ∧ modeTest s.mode taken q = none ∧
      ∃ r, check s = some r ∧ s.command taken q check effect = s.refuse r) ∨
    (s.inReset = false ∧ modeTest s.mode taken q = none ∧ check s = none ∧
      s.command taken q check effect = effect { s with regs := { s.regs with cmd := .ok } }) := by
  unfold State.command
  cases hr : s.inReset
  · rw [State.outOfReset_of_not hr]
    cases hm : modeTest s.mode taken q with
    | some r => exact Or.inr (Or.inl ⟨rfl, r, rfl, by simp⟩)
    | none =>
      cases hc : check s with
      | some r => exact Or.inr (Or.inr (Or.inl ⟨rfl, rfl, r, rfl, by simp⟩))
      | none => exact Or.inr (Or.inr (Or.inr ⟨rfl, rfl, rfl, by simp [State.accept]⟩))
  · rw [State.outOfReset_of_inReset hr]
    exact Or.inl ⟨rfl, rfl⟩

/-- A command in a mode that takes it answers by its checks. -/
theorem State.command_taken {s : State} {taken : List Mode} {q : Result} {check : State → Option Result}
    {effect : State → State} (h : s.inReset = false) (hm : taken.contains s.mode = true) :
    s.command taken q check effect =
      match check s with
      | some r => s.refuse r
      | none => effect { s with regs := { s.regs with cmd := .ok } } := by
  unfold State.command
  rw [State.outOfReset_of_not h]
  simp only [modeTest, hm, if_true]
  cases check s <;> simp [State.accept]

/-- A refused command changes the result and CMD_REF alone (R187). -/
theorem State.refuse_eq (s : State) (r : Result) :
    s.refuse r = { s with regs := { s.regs with cmd := r }, events := s.events.raise .cmdRef } := rfl

/-! ### Reports to the Weak Row List -/

/-- The report of a regular refresh changes the list and SPOT_MISS alone. -/
theorem State.reportRegular_frame (s : State) (b : Bank) (row : Row) (p : Bool) :
    s.reportRegular b row p = { s with
      weak := s.weak.map fun e => e.afterRefresh b row p, events := (s.reportRegular b row p).events } := by
  unfold State.reportRegular State.raiseIf
  split <;> rfl

/-! ### FIFOs and withdrawal -/

/-- A flush empties the FIFO and its counts, and tells a DEPOSIT strobe of the channel (R122, R145). -/
theorem State.flushFifo_eq (s : State) (c : Chan) :
    s.flushFifo c = { s with
      chans := s.chans.set c { s.chan c with fifo := [], reserved := 0, claimed := 0 }
      strobe := s.strobe.map (Strobe.afterFlush c) } := rfl

/-- A withdrawal of a channel's records changes the queue and the channel's reserved and claimed counts alone (R91). -/
theorem State.withdrawChan_frame (s : State) (c : Chan) :
    s.withdrawChan c = { s with
      chans := s.chans.set c
        { s.chan c with reserved := ((s.withdrawChan c).chan c).reserved, claimed := ((s.withdrawChan c).chan c).claimed }
      queue := s.queue.filter fun r => !Record.removable c r } := by
  have h : ((s.withdrawChan c).chan c) = _ := PerChan.get_set_same s.chans c _
  rw [h]; rfl

end Sys2Proof.Machine
end

