-- ==== Sys2Proof/Laws/PerInstr.lean ====
section
/-! SUPPORT. One lemma for each row of the table: a bus cycle that carries a well-formed row out is read back as that row. -/

namespace Sys2Proof.Laws

/-- A row that is a bus cycle is the row that this cycle is (R185 to R188). -/
def CycleRoundTrip.Statement (i : Instr) : Prop := i.wf = true → ∀ c, cycleOfRow i = some c → rowOfCycle c = some i

/-- A row that is no bus cycle has nothing to be read back. -/
theorem roundTrip_of_none {i : Instr} (h : cycleOfRow i = none) : CycleRoundTrip.Statement i := by
  intro _ c hc
  rw [h] at hc
  cases hc

theorem CycleRoundTrip.bringup : CycleRoundTrip.Statement (.bringup) :=
  fun _ _ hc => Option.some.inj hc ▸ rfl

theorem CycleRoundTrip.hold : CycleRoundTrip.Statement (.hold) :=
  fun _ _ hc => Option.some.inj hc ▸ rfl

theorem CycleRoundTrip.wake : CycleRoundTrip.Statement (.wake) :=
  fun _ _ hc => Option.some.inj hc ▸ rfl

theorem CycleRoundTrip.trafficReset : CycleRoundTrip.Statement (.trafficReset) :=
  fun _ _ hc => Option.some.inj hc ▸ rfl

theorem CycleRoundTrip.hostRead : CycleRoundTrip.Statement (.hostRead) :=
  fun _ _ hc => Option.some.inj hc ▸ rfl

theorem CycleRoundTrip.hostWrite : CycleRoundTrip.Statement (.hostWrite) :=
  fun _ _ hc => Option.some.inj hc ▸ rfl

theorem CycleRoundTrip.hostWriteByte : CycleRoundTrip.Statement (.hostWriteByte) :=
  fun _ _ hc => Option.some.inj hc ▸ rfl

theorem CycleRoundTrip.hostCancel : CycleRoundTrip.Statement (.hostCancel) :=
  fun _ _ hc => Option.some.inj hc ▸ rfl

theorem CycleRoundTrip.chStart : CycleRoundTrip.Statement (.chStart) :=
  fun _ _ hc => Option.some.inj hc ▸ rfl

theorem CycleRoundTrip.chStop : CycleRoundTrip.Statement (.chStop) :=
  fun _ _ hc => Option.some.inj hc ▸ rfl

theorem CycleRoundTrip.chAbort : CycleRoundTrip.Statement (.chAbort) :=
  fun _ _ hc => Option.some.inj hc ▸ rfl

theorem CycleRoundTrip.weakAdd : CycleRoundTrip.Statement (.weakAdd) :=
  fun _ _ hc => Option.some.inj hc ▸ rfl

theorem CycleRoundTrip.weakRemove : CycleRoundTrip.Statement (.weakRemove) :=
  fun _ _ hc => Option.some.inj hc ▸ rfl

theorem CycleRoundTrip.weakClear : CycleRoundTrip.Statement (.weakClear) :=
  fun _ _ hc => Option.some.inj hc ▸ rfl

theorem CycleRoundTrip.bankPause : CycleRoundTrip.Statement (.bankPause) :=
  fun _ _ hc => Option.some.inj hc ▸ rfl

theorem CycleRoundTrip.bankResume : CycleRoundTrip.Statement (.bankResume) :=
  fun _ _ hc => Option.some.inj hc ▸ rfl

theorem CycleRoundTrip.clearLost : CycleRoundTrip.Statement (.clearLost) :=
  fun _ _ hc => Option.some.inj hc ▸ rfl

theorem CycleRoundTrip.faultPop : CycleRoundTrip.Statement (.faultPop) :=
  fun _ _ hc => Option.some.inj hc ▸ rfl

theorem CycleRoundTrip.unknownCommand (code : Byte) : CycleRoundTrip.Statement (.unknownCommand code) := by
  intro h c hc
  have h' : namesCommand code = false := by simpa [Instr.wf] using h
  obtain rfl : BusCycle.write 0x01 code = c := by simpa [cycleOfRow] using hc
  show some (commandOfCode code) = some (.unknownCommand code)
  simp only [namesCommand, List.contains_eq_mem, decide_eq_false_iff_not, List.mem_cons, List.not_mem_nil] at h'
  simp only [commandOfCode]
  split <;> first | rfl | (exfalso; simp_all)

theorem CycleRoundTrip.datalRead : CycleRoundTrip.Statement (.datalRead) :=
  fun _ _ hc => Option.some.inj hc ▸ rfl

theorem CycleRoundTrip.datahRead : CycleRoundTrip.Statement (.datahRead) :=
  fun _ _ hc => Option.some.inj hc ▸ rfl

theorem CycleRoundTrip.datalWrite (v : Byte) : CycleRoundTrip.Statement (.datalWrite v) :=
  fun _ _ hc => Option.some.inj hc ▸ rfl

theorem CycleRoundTrip.datahWrite (v : Byte) : CycleRoundTrip.Statement (.datahWrite v) :=
  fun _ _ hc => Option.some.inj hc ▸ rfl

theorem CycleRoundTrip.tdataRead : CycleRoundTrip.Statement (.tdataRead) :=
  fun _ _ hc => Option.some.inj hc ▸ rfl

theorem CycleRoundTrip.tdataWrite (v : Byte) : CycleRoundTrip.Statement (.tdataWrite v) :=
  fun _ _ hc => Option.some.inj hc ▸ rfl

theorem CycleRoundTrip.tselWrite (v : Byte) : CycleRoundTrip.Statement (.tselWrite v) :=
  fun _ _ hc => Option.some.inj hc ▸ rfl

theorem CycleRoundTrip.eventRegisterWrite (reg : EventReg) (v : Byte) : CycleRoundTrip.Statement (.eventRegisterWrite reg v) := by
  intro _ c hc
  cases reg <;> (obtain rfl := Option.some.inj hc; rfl)

theorem CycleRoundTrip.fltlostWrite (v : Byte) : CycleRoundTrip.Statement (.fltlostWrite v) :=
  fun _ _ hc => Option.some.inj hc ▸ rfl

theorem CycleRoundTrip.causeWrite (v : Byte) : CycleRoundTrip.Statement (.causeWrite v) :=
  fun _ _ hc => Option.some.inj hc ▸ rfl

theorem CycleRoundTrip.registerWrite (addr : BitVec 5) (v : Byte) : CycleRoundTrip.Statement (.registerWrite addr v) := by
  intro h c hc
  have h' : hasOwnWriteRow addr = false := by simpa [Instr.wf] using h
  obtain rfl : BusCycle.write addr v = c := by simpa [cycleOfRow] using hc
  simp only [hasOwnWriteRow, List.contains_eq_mem, decide_eq_false_iff_not, List.mem_cons, List.not_mem_nil] at h'
  simp only [rowOfCycle]
  split <;> first | rfl | (exfalso; simp_all)

theorem CycleRoundTrip.pinReset : CycleRoundTrip.Statement (.pinReset) :=
  roundTrip_of_none rfl

theorem CycleRoundTrip.powerOnReset : CycleRoundTrip.Statement (.powerOnReset) :=
  roundTrip_of_none rfl

theorem CycleRoundTrip.resetEnd (last : ResetKind) : CycleRoundTrip.Statement (.resetEnd last) :=
  roundTrip_of_none rfl

theorem CycleRoundTrip.hwakeFallingEdge : CycleRoundTrip.Statement (.hwakeFallingEdge) :=
  roundTrip_of_none rfl

theorem CycleRoundTrip.lreqAsserted (c : Chan) : CycleRoundTrip.Statement (.lreqAsserted c) :=
  roundTrip_of_none rfl

theorem CycleRoundTrip.lreqWithdrawn (c : Chan) : CycleRoundTrip.Statement (.lreqWithdrawn c) :=
  roundTrip_of_none rfl

theorem CycleRoundTrip.lsyncRisingEdge (c : Chan) : CycleRoundTrip.Statement (.lsyncRisingEdge c) :=
  roundTrip_of_none rfl

theorem CycleRoundTrip.tick (t : RefreshTick) : CycleRoundTrip.Statement (.tick t) :=
  roundTrip_of_none rfl

theorem CycleRoundTrip.warmupStart : CycleRoundTrip.Statement (.warmupStart) :=
  roundTrip_of_none rfl

theorem CycleRoundTrip.wakeSettleEnd : CycleRoundTrip.Statement (.wakeSettleEnd) :=
  roundTrip_of_none rfl

theorem CycleRoundTrip.periodTick (t : PeriodTick) : CycleRoundTrip.Statement (.periodTick t) :=
  roundTrip_of_none rfl

theorem CycleRoundTrip.openLimitExpiry (b : Bank) : CycleRoundTrip.Statement (.openLimitExpiry b) :=
  roundTrip_of_none rfl

theorem CycleRoundTrip.activationEnd (b : Bank) : CycleRoundTrip.Statement (.activationEnd b) :=
  roundTrip_of_none rfl

theorem CycleRoundTrip.prechargeEnd (b : Bank) : CycleRoundTrip.Statement (.prechargeEnd b) :=
  roundTrip_of_none rfl

theorem CycleRoundTrip.regularRefreshEnd (b : Bank) : CycleRoundTrip.Statement (.regularRefreshEnd b) :=
  roundTrip_of_none rfl

theorem CycleRoundTrip.spotRefreshEnd (b : Bank) : CycleRoundTrip.Statement (.spotRefreshEnd b) :=
  roundTrip_of_none rfl

theorem CycleRoundTrip.warmupRefreshEnd (b : Bank) : CycleRoundTrip.Statement (.warmupRefreshEnd b) :=
  roundTrip_of_none rfl

theorem CycleRoundTrip.wordTransferEnd : CycleRoundTrip.Statement (.wordTransferEnd) :=
  roundTrip_of_none rfl

theorem CycleRoundTrip.rmwWordEnd : CycleRoundTrip.Statement (.rmwWordEnd) :=
  roundTrip_of_none rfl

theorem CycleRoundTrip.dataPathGrant : CycleRoundTrip.Statement (.dataPathGrant) :=
  roundTrip_of_none rfl

theorem CycleRoundTrip.laneGrant : CycleRoundTrip.Statement (.laneGrant) :=
  roundTrip_of_none rfl

theorem CycleRoundTrip.fetchStrobeEnd : CycleRoundTrip.Statement (.fetchStrobeEnd) :=
  roundTrip_of_none rfl

theorem CycleRoundTrip.depositStrobeEnd (ld : Data) : CycleRoundTrip.Statement (.depositStrobeEnd ld) :=
  roundTrip_of_none rfl

end Sys2Proof.Laws
end

