-- ==== Sys2Proof/Laws/Scheduler.lean ====
section
/-! SUPPORT. What the choice of a bank, the reports to the Mode Controller and a grant can do, said once each. -/

namespace Sys2Proof.Machine

/-! ### Bare records -/

@[simp] theorem Record.bare_idem (r : Record) : r.bare.bare = r.bare := rfl

theorem State.bareQueue_dropSelection (s : State) (b : Bank) : (s.dropSelection b).bareQueue = s.bareQueue := by
  simp only [State.bareQueue, State.dropSelection, List.map_map]
  apply List.map_congr_left
  intro r _
  simp only [Function.comp]
  split <;> rfl

theorem State.bareQueue_select (s : State) (line : ChoiceLine) (i : Nat) : (s.select line i).bareQueue = s.bareQueue := by
  apply List.ext_getElem
  · simp [State.bareQueue]
  · intro j h1 h2
    simp only [State.bareQueue, State.select, List.getElem_map, List.getElem_modify]
    split <;> rfl

/-! ### Moves -/

theorem BankLane.ChoiceMove.refl (l : BankLane) : l.ChoiceMove l := Or.inl rfl

/-- A move leaves everything of the lane but its state and the clock of its operation. -/
theorem BankLane.ChoiceMove.keeps {l l' : BankLane} (h : l.ChoiceMove l') :
    l'.line = l.line ∧ l'.pointer = l.pointer ∧ l'.debt = l.debt ∧ l'.paused = l.paused ∧ l'.lost = l.lost := by
  rcases h with rfl | ⟨_, rfl⟩ | ⟨_, ⟨_, rfl⟩ | ⟨_, _, rfl⟩ | rfl⟩ <;> simp

/-- A lane that is neither OPEN nor CLOSED does not move. -/
theorem BankLane.ChoiceMove.eq_of_state {l l' : BankLane} (h : l.ChoiceMove l') (h1 : l.state ≠ .rowOpen)
    (h2 : l.state ≠ .closed) : l' = l := by
  rcases h with rfl | ⟨h, _⟩ | ⟨h, _⟩
  · rfl
  · exact absurd h h1
  · exact absurd h h2

theorem State.ReportPassage.refl (s : State) : s.ReportPassage s := Or.inl ⟨rfl, rfl, rfl, rfl, rfl⟩

/-! ### Shapes that are choices of one bank -/

theorem State.ChoiceOf.refl (s : State) (b : Bank) : s.ChoiceOf s b :=
  ⟨⟨rfl, rfl, .refl s, fun _ => .refl _⟩, fun _ _ => rfl, fun _ _ h _ => h⟩

/-- A state that differs in the lane of one bank by a move, and in notes of selections of its records. -/
theorem State.ChoiceOf.ofLane {s t : State} {b : Bank} (ht : t = { s with banks := s.banks.set b (t.bank b), queue := t.queue })
    (hq : t.bareQueue = s.bareQueue) (hm : (s.bank b).ChoiceMove (t.bank b))
    (hr : ∀ (i : Nat) (r : Record), s.queue[i]? = some r → r.bank ≠ b → t.queue[i]? = some r) : s.ChoiceOf t b := by
  have hb : ∀ b', b' ≠ b → t.bank b' = s.bank b' := by
    intro b' h
    have : t.banks = s.banks.set b (t.bank b) := by conv => lhs; rw [ht]
    show t.banks.get b' = s.banks.get b'
    rw [this]; exact PerBank.get_set_other _ _ h
  have hmode : t.mode = s.mode := by rw [ht]
  have hpre : t.prechargeAll = s.prechargeAll := by rw [ht]
  have htick : t.tickCount = s.tickCount := by rw [ht]
  have hev : t.events = s.events := by rw [ht]
  have hhost : t.host = s.host := by rw [ht]
  have hbanks : t.banks = s.banks.set b (t.bank b) := by conv => lhs; rw [ht]
  refine ⟨⟨?_, hq, Or.inl ⟨hmode, hpre, htick, hev, hhost⟩, ?_⟩, hb, hr⟩
  · rw [hmode, hpre, htick, hev, hhost, hbanks]; exact ht
  · intro b'
    by_cases h : b' = b
    · subst h; exact hm
    · rw [hb b' h]; exact .refl _

/-- Dropping a bank's selection leaves the records of the other banks. -/
theorem State.dropSelection_others (s : State) (b : Bank) (i : Nat) (r : Record) (h : s.queue[i]? = some r) (hb : r.bank ≠ b) :
    (s.dropSelection b).queue[i]? = some r := by
  simp [State.dropSelection, h, hb]

/-- A place that `oldestSuch` finds holds a record with the property, behind some older ones. -/
theorem oldestSuch_spec {p : List Record → Record → Bool} {older rs : List Record} {i : Nat}
    (h : oldestSuch p older rs = some i) : ∃ j r o, i = older.length + j ∧ rs[j]? = some r ∧ p o r = true := by
  induction rs generalizing older with
  | nil => simp [oldestSuch] at h
  | cons r rest ih =>
    unfold oldestSuch at h
    split at h
    · next hp => exact ⟨0, r, older, by simpa using h.symm, rfl, hp⟩
    · obtain ⟨j, q, o, hi, hq, hp⟩ := ih h
      exact ⟨j + 1, q, o, by rw [hi, List.length_append, List.length_singleton]; omega, hq, hp⟩

/-- The candidate of a bank is a record of the bank. -/
theorem State.candidate_bank {s : State} {b : Bank} {line : ChoiceLine} {i : Nat} (h : s.candidate b = some (line, i)) :
    ∃ r, s.queue[i]? = some r ∧ r.bank = b := by
  have key : ∀ p : Record → Bool, oldestSuch (fun older r => eligible older r && r.bank == b && p r) [] s.queue = some i →
      ∃ r, s.queue[i]? = some r ∧ r.bank = b := by
    intro p hp
    obtain ⟨j, r, o, hi, hr, h⟩ := oldestSuch_spec hp
    simp only [Bool.and_eq_true, beq_iff_eq] at h
    exact ⟨r, by rw [hi]; simpa using hr, h.1.2⟩
  unfold State.candidate at h
  simp only at h
  split at h
  · next hf => cases h; exact key _ hf
  · split at h
    · next hf => cases h; exact key _ hf
    · split at h
      · next hf => cases h; exact key _ hf
      · obtain ⟨k, hf, hk⟩ := Option.map_eq_some_iff.1 h
        cases hk; exact key _ hf

theorem State.dropSelection_choiceOf (s : State) (b : Bank) : s.ChoiceOf (s.dropSelection b) b := by
  refine .ofLane ?_ (s.bareQueue_dropSelection b) (.refl _) (s.dropSelection_others b)
  show _ = { s with banks := s.banks.set b (s.banks.get b), queue := _ }
  have : s.banks.set b (s.banks.get b) = s.banks := by cases b <;> rfl
  rw [this]; rfl

theorem State.select_choiceOf (s : State) (line : ChoiceLine) (i : Nat) (b : Bank) (hb : ∃ r, s.queue[i]? = some r ∧ r.bank = b) :
    s.ChoiceOf (s.select line i) b := by
  refine .ofLane ?_ (s.bareQueue_select line i) (.refl _) ?_
  case refine_2 =>
    intro j q hj hq
    obtain ⟨r, hr, hrb⟩ := hb
    by_cases hij : i = j
    · subst hij; rw [hr] at hj; cases hj; exact absurd hrb hq
    · simp [State.select, hij, hj]
  show _ = { s with banks := s.banks.set b (s.banks.get b), queue := _ }
  have : s.banks.set b (s.banks.get b) = s.banks := by cases b <;> rfl
  rw [this]; rfl

theorem State.setBank_choiceOf (s : State) (b : Bank) (l : BankLane) (h : (s.bank b).ChoiceMove l) :
    s.ChoiceOf (s.setBank b l) b := by
  refine .ofLane ?_ rfl ?_ fun _ _ h _ => h
  · rw [State.bank_setBank_same]; rfl
  · simpa using h

theorem State.startPrecharge_choiceOf (s : State) (b : Bank) (h : (s.bank b).state = .rowOpen) :
    s.ChoiceOf (s.startPrecharge b) b := by
  refine .ofLane ?_ ?_ ?_ (s.dropSelection_others b)
  · simp only [State.startPrecharge, State.bank_setBank_same]; rfl
  · exact s.bareQueue_dropSelection b
  · simp only [State.startPrecharge, State.bank_setBank_same]
    exact Or.inr (Or.inl ⟨h, rfl⟩)

theorem State.startActivation_choiceOf (s : State) (b : Bank) (row : Row) (h : (s.bank b).state = .closed) :
    s.ChoiceOf (s.startActivation b row) b :=
  s.setBank_choiceOf b _ (Or.inr (Or.inr ⟨h, Or.inl ⟨row, rfl⟩⟩))

theorem State.startRegular_choiceOf (s : State) (b : Bank) (h : (s.bank b).state = .closed) :
    s.ChoiceOf (s.startRegular b) b :=
  s.setBank_choiceOf b _ (Or.inr (Or.inr ⟨h, Or.inr (Or.inl ⟨_, _, rfl⟩)⟩))

theorem State.startSpot_choiceOf (s : State) (b : Bank) (row : Row) (h : (s.bank b).state = .closed) :
    s.ChoiceOf (s.startSpot b row) b :=
  s.setBank_choiceOf b _ (Or.inr (Or.inr ⟨h, Or.inr (Or.inl ⟨_, _, rfl⟩)⟩))

theorem State.enterHeld_choiceOf (s : State) (b : Bank) (h : (s.bank b).state = .closed) (hm : s.mode = .holdEntry) :
    s.ChoiceOf (s.enterHeld b) b := by
  have hmove : (s.bank b).ChoiceMove ((s.bank b).enter .held) := Or.inr (Or.inr ⟨h, Or.inr (Or.inr rfl)⟩)
  unfold State.enterHeld
  simp only
  split
  · refine ⟨⟨rfl, rfl, Or.inr (Or.inr (Or.inl ⟨hm, rfl, rfl, rfl, rfl, rfl⟩)), ?_⟩, ?_, fun _ _ h _ => h⟩
    · intro b'
      by_cases hb : b' = b
      · subst hb
        show (s.bank b').ChoiceMove ((s.setBank b' _).bank b')
        rw [State.bank_setBank_same]; exact hmove
      · show (s.bank b').ChoiceMove ((s.setBank b _).bank b')
        rw [State.bank_setBank_other _ _ hb]; exact .refl _
    · intro b' hb
      show (s.setBank b _).bank b' = s.bank b'
      exact State.bank_setBank_other _ _ hb
  · exact s.setBank_choiceOf b _ hmove

/-! ### The choice -/

theorem State.holdSequence_choiceOf (s : State) (b : Bank) (h : (s.bank b).state = .closed) (hm : s.mode = .holdEntry) :
    s.ChoiceOf (s.holdSequence b) b := by
  unfold State.holdSequence
  split
  · exact s.startRegular_choiceOf b h
  · split
    · exact s.startSpot_choiceOf b _ h
    · exact s.enterHeld_choiceOf b h hm

theorem State.chooseOpen_choiceOf (s : State) (b : Bank) (h : (s.bank b).state = .rowOpen) :
    s.ChoiceOf (s.chooseOpen b) b := by
  unfold State.chooseOpen
  split
  · exact s.startPrecharge_choiceOf b h
  · split
    · next hc =>
      split
      · exact s.select_choiceOf _ _ b (State.candidate_bank hc)
      · exact s.startPrecharge_choiceOf b h
    · split
      · exact .refl s b
      · exact s.startPrecharge_choiceOf b h

theorem State.chooseClosed_choiceOf (s : State) (b : Bank) (h : (s.bank b).state = .closed) :
    s.ChoiceOf (s.chooseClosed b) b := by
  unfold State.chooseClosed
  split
  · next hm => exact s.holdSequence_choiceOf b h hm.1
  · split
    · exact s.startRegular_choiceOf b h
    · split
      · exact s.startSpot_choiceOf b _ h
      · split
        · exact s.startActivation_choiceOf b _ h
        · split
          · exact s.startRegular_choiceOf b h
          · exact .refl s b

/-- The per-bank choice changes nothing but what a choice may change. -/
theorem State.choose_choiceOf (s : State) (b : Bank) : s.ChoiceOf (s.choose b) b := by
  unfold State.choose
  split
  · next hin =>
    simp only [State.inChoice, Bool.and_eq_true, Bool.or_eq_true, beq_iff_eq] at hin
    split
    · next ho => exact s.chooseOpen_choiceOf b ho
    · next ho =>
      rcases hin.1.2 with h | h
      · exact s.chooseClosed_choiceOf b h
      · exact absurd h ho
  · exact .refl s b

/-- The choice of a bank after its selection is dropped. -/
theorem State.choose_dropSelection_choiceOf (s : State) (b : Bank) : s.ChoiceOf ((s.dropSelection b).choose b) b := by
  obtain ⟨⟨ht, hq, hp, hm⟩, ho⟩ := (s.dropSelection b).choose_choiceOf b
  refine ⟨⟨?_, hq.trans (s.bareQueue_dropSelection b), hp, hm⟩, ho.1, fun i r h hb => ho.2 i r (s.dropSelection_others b i r h hb) hb⟩
  rw [ht]; rfl

/-- A bank that looks again at its inputs changes nothing but what a choice may change. -/
theorem State.reconsider_choiceOf (s : State) (b : Bank) : s.ChoiceOf (s.reconsider b) b := by
  unfold State.reconsider
  split
  · exact s.choose_dropSelection_choiceOf b
  · exact s.choose_choiceOf b

/-! ### Several banks -/

theorem State.ReportPassage.trans {s t u : State} (h : s.ReportPassage t) (k : t.ReportPassage u) : s.ReportPassage u := by
  rcases h with ⟨a1, a2, a3, a4, a5⟩ | ⟨a0, a1, a2, a3, a4, a5⟩ | ⟨a0, a1, a2, a3, a4, a5⟩ | ⟨a0, a1, a2, a3, a4, a5⟩ <;>
  rcases k with ⟨b1, b2, b3, b4, b5⟩ | ⟨b0, b1, b2, b3, b4, b5⟩ | ⟨b0, b1, b2, b3, b4, b5⟩ | ⟨b0, b1, b2, b3, b4, b5⟩ <;>
  simp_all [State.ReportPassage]

/-- A choice of a bank that has not moved yet, after other choices. -/
theorem State.ChoicesOf.choice {s t u : State} {b : Bank} (h : s.ChoicesOf t) (hb : t.bank b = s.bank b)
    (k : t.ChoiceOf u b) : s.ChoicesOf u := by
  obtain ⟨h1, h2, h3, h4⟩ := h
  obtain ⟨⟨k1, k2, k3, k4⟩, k5⟩ := k
  refine ⟨?_, k2.trans h2, h3.trans k3, ?_⟩
  · rw [k1, h1]
  · intro b'
    by_cases hb' : b' = b
    · subst hb'; rw [← hb]; exact k4 b'
    · rw [k5.1 b' hb']; exact h4 b'

/-- Every bank looking again at its inputs changes nothing but what choices may change. -/
theorem State.reconsiderAll_choicesOf (s : State) : s.ChoicesOf s.reconsiderAll := by
  have h0 := s.reconsider_choiceOf .b0
  have h1 := (s.reconsider .b0).reconsider_choiceOf .b1
  have h2 := ((s.reconsider .b0).reconsider .b1).reconsider_choiceOf .b2
  have h3 := (((s.reconsider .b0).reconsider .b1).reconsider .b2).reconsider_choiceOf .b3
  have e1 : (s.reconsider .b0).bank .b1 = s.bank .b1 := h0.2.1 _ (by decide)
  have e2 : ((s.reconsider .b0).reconsider .b1).bank .b2 = s.bank .b2 := by
    rw [h1.2.1 .b2 (by decide), h0.2.1 .b2 (by decide)]
  have e3 : (((s.reconsider .b0).reconsider .b1).reconsider .b2).bank .b3 = s.bank .b3 := by
    rw [h2.2.1 .b3 (by decide), h1.2.1 .b3 (by decide), h0.2.1 .b3 (by decide)]
  exact ((h0.1.choice e1 h1).choice e2 h2).choice e3 h3

/-! ### Reports -/

/-- The quiesce test changes nothing but the passage it makes, and no lane. -/
theorem State.quiesceTest_choicesOf (s : State) : s.ChoicesOf s.quiesceTest ∧ ∀ b, s.quiesceTest.bank b = s.bank b := by
  unfold State.quiesceTest
  split
  · next h => exact ⟨⟨rfl, rfl, Or.inr (Or.inr (Or.inr ⟨h.1, rfl, rfl, rfl, rfl, rfl⟩)), fun _ => .refl _⟩, fun _ => rfl⟩
  · exact ⟨⟨rfl, rfl, .refl s, fun _ => .refl _⟩, fun _ => rfl⟩

/-- The reports that follow a removal change nothing but the passage they make, and no lane. -/
theorem State.afterRemoval_choicesOf (s : State) :
    s.ChoicesOf s.afterRemoval ∧ ∀ b, s.afterRemoval.bank b = s.bank b := by
  unfold State.afterRemoval
  split
  · next h => exact ⟨⟨rfl, rfl, Or.inr (Or.inl ⟨h.1, h.1, rfl, rfl, rfl, rfl⟩), fun _ => .refl _⟩, fun _ => rfl⟩
  · exact s.quiesceTest_choicesOf

/-- Choices after a report that moved no lane. -/
theorem State.ChoicesOf.choices {s t u : State} (h : s.ChoicesOf t) (hb : ∀ b, t.bank b = s.bank b) (k : t.ChoicesOf u) :
    s.ChoicesOf u := by
  obtain ⟨h1, h2, h3, _⟩ := h
  obtain ⟨k1, k2, k3, k4⟩ := k
  refine ⟨?_, k2.trans h2, h3.trans k3, fun b => ?_⟩
  · rw [k1, h1]
  · rw [← hb b]; exact k4 b

/-- What follows a removal, up to the choices of all banks. -/
theorem State.removal_choicesOf (s : State) : s.ChoicesOf s.afterRemoval.reconsiderAll :=
  s.afterRemoval_choicesOf.1.choices s.afterRemoval_choicesOf.2 (State.reconsiderAll_choicesOf _)

/-- What follows the end of an operation: the quiesce test, then the choice of the bank. -/
theorem State.afterOperation_choiceOf (s : State) (b : Bank) : s.ChoiceOf (s.afterOperation b) b := by
  obtain ⟨h, hb⟩ := s.quiesceTest_choicesOf
  have k := s.quiesceTest.reconsider_choiceOf b
  refine ⟨h.choices hb k.1, fun b' n => (k.2.1 b' n).trans (hb b'), fun i r hi n => k.2.2 i r ?_ n⟩
  rw [State.quiesceTest]; split <;> exact hi

/-! ### Outside HOLD_ENTRY and QUIESCING -/

/-- Where the mode is neither HOLD_ENTRY nor QUIESCING, choices change lanes and notes of selections alone. -/
theorem State.ChoicesOf.inOtherMode {s t : State} (h : s.ChoicesOf t) (h1 : s.mode ≠ .holdEntry) (h2 : s.mode ≠ .quiescing) :
    t = { s with banks := t.banks, queue := t.queue } := by
  obtain ⟨ht, _, hp, _⟩ := h
  rcases hp with ⟨a, b, c, d, e⟩ | ⟨a, _⟩ | ⟨a, _⟩ | ⟨a, _⟩
  · rw [a, b, c, d, e] at ht; exact ht
  · exact absurd a h1
  · exact absurd a h1
  · exact absurd a h2

/-- A bank outside the choice with no selection to drop stays as it is. -/
theorem State.choose_of_not_inChoice {s : State} {b : Bank} (h : s.inChoice b = false) : s.choose b = s := by
  simp [State.choose, h]

end Sys2Proof.Machine
end

