-- ==== Sys2Proof/Laws/Queue.lean ====
section
/-! SUPPORT. What the searches, the tests and the reports that the rows share find and keep, each said once. -/

namespace Sys2Proof.Machine

/-! ### Records and the queue -/

/-- Two records overlap when some word of the one has the offset of some word of the other (R4). -/
theorem Record.overlaps_iff (r q : Record) : 
    r.overlaps q = true ↔ r.bank = q.bank ∧ ∃ j k, j < r.count ∧ k < q.count ∧ r.wordOffset j = q.wordOffset k := by
  simp only [Record.overlaps, Record.words, Bool.and_eq_true, beq_iff_eq, List.any_eq_true, List.mem_map, List.mem_range,
    List.contains_iff_mem]
  constructor
  · rintro ⟨h, x, ⟨a, ha, rfl⟩, ⟨b, hb, h2⟩⟩
    exact ⟨h, a, b, ha, hb, h2.symm⟩
  · rintro ⟨h, a, b, ha, hb, h2⟩
    exact ⟨h, _, ⟨a, ha, rfl⟩, b, hb, h2.symm⟩

/-- What the search for the oldest record finds: the first place at which the test holds. -/
theorem oldestSuch_iff (p : List Record → Record → Bool) (older rs : List Record) (i : Nat) :
    oldestSuch p older rs = some i ↔ older.length ≤ i ∧
      (∃ r, rs[i - older.length]? = some r ∧ p (older ++ rs.take (i - older.length)) r = true) ∧
      ∀ j, older.length ≤ j → j < i → ∀ r, rs[j - older.length]? = some r → p (older ++ rs.take (j - older.length)) r = false := by
  induction rs generalizing older with
  | nil => simp [oldestSuch]
  | cons a rest ih =>
    unfold oldestSuch
    by_cases h : p older a = true
    · simp only [h, if_true, Option.some.injEq]
      constructor
      · rintro rfl
        refine ⟨le_refl _, ⟨a, by simp, by simpa using h⟩, ?_⟩
        intro j h1 h2; omega
      · rintro ⟨h1, _, h3⟩
        by_contra hne
        have := h3 older.length (le_refl _) (by omega) a (by simp)
        simp [h] at this
    · simp only [h, Bool.false_eq_true, if_false]
      rw [ih]
      simp only [List.length_append, List.length_cons, List.length_nil, Nat.zero_add]
      constructor
      · rintro ⟨h1, ⟨r, h2, h3⟩, h4⟩
        have e : i - older.length = (i - (older.length + 1)) + 1 := by omega
        refine ⟨by omega, ⟨r, ?_, ?_⟩, ?_⟩
        · rw [e]; simpa using h2
        · rw [e]; simpa using h3
        · intro j h5 h6 q hq
          by_cases hj : j = older.length
          · subst hj; simp at hq; subst hq; simpa using h
          · have e : j - older.length = (j - (older.length + 1)) + 1 := by omega
            rw [e] at hq ⊢
            have := h4 j (by omega) h6 q (by simpa using hq)
            simpa using this
      · rintro ⟨h1, ⟨r, h2, h3⟩, h4⟩
        have hne : i ≠ older.length := by
          rintro rfl; simp at h2 h3; subst h2; simp [h3] at h
        have e : i - older.length = (i - (older.length + 1)) + 1 := by omega
        rw [e] at h2 h3
        refine ⟨by omega, ⟨r, by simpa using h2, by simpa using h3⟩, ?_⟩
        intro j h5 h6 q hq
        have e : j - older.length = (j - (older.length + 1)) + 1 := by omega
        have := h4 j (by omega) h6 q (by rw [e]; simpa using hq)
        rw [e] at this
        simpa using this

/-- The search of a line of R82 finds the oldest choosable record with the line's property. -/
theorem State.search_iff (s : State) (b : Bank) (p : Record → Bool) (i : Nat) :
   oldestSuch (fun older r => eligible older r && r.bank == b && p r) [] s.queue = some i ↔
      s.OldestChoosable b (fun r => p r = true) i := by
  rw [oldestSuch_iff]
  simp only [List.length_nil, Nat.zero_le, true_and, Nat.sub_zero, List.nil_append, State.OldestChoosable,
    State.Choosable, Bool.and_eq_true, beq_iff_eq, forall_true_left]
  constructor
  · rintro ⟨⟨r, h1, ⟨h2, h3⟩, h4⟩, h5⟩
    refine ⟨⟨r, h1, h3, h2, h4⟩, ?_⟩
    rintro j hj ⟨q, q1, q2, q3, q4⟩
    have := h5 j hj q q1
    simp [q2, q3, q4] at this
  · rintro ⟨⟨r, h1, h3, h2, h4⟩, h5⟩
    refine ⟨⟨r, h1, ⟨h2, h3⟩, h4⟩, ?_⟩
    intro j hj q q1
    by_contra hc
    simp only [Bool.not_eq_false, Bool.and_eq_true, beq_iff_eq] at hc
    exact h5 j hj ⟨q, q1, hc.1.2, hc.1.1, hc.2⟩

/-- The search of a line of R82 finds nothing exactly when no record is choosable with the property. -/
theorem State.search_none (s : State) (b : Bank) (p : Record → Bool) :
   oldestSuch (fun older r => eligible older r && r.bank == b && p r) [] s.queue = none ↔
      ∀ i, ¬s.Choosable b (fun r => p r = true) i := by
  constructor
  · intro h i
    induction i using Nat.strong_induction_on with
    | _ i ih =>
      intro hc
      have := (State.search_iff s b p i).2 ⟨hc, ih⟩
      simp [this] at h
  · intro h
    cases hc : oldestSuch (fun older r => eligible older r && r.bank == b && p r) [] s.queue with
    | none => rfl
    | some i => exact absurd ((State.search_iff s b p i).1 hc).1 (h i)

/-- At most one place is the oldest. -/
theorem State.OldestChoosable.unique {s : State} {b : Bank} {p : Record → Prop} {i j : Nat} (h : s.OldestChoosable b p i)
    (h' : s.OldestChoosable b p j) : i = j := by
  rcases Nat.lt_trichotomy i j with hl | hl | hl
  · exact absurd h.1 (h'.2 i hl)
  · exact hl
  · exact absurd h'.1 (h.2 j hl)

/-- The test of line c in the words of Safety.lean. -/
theorem State.inOpenRow_iff (s : State) (b : Bank) (r : Record) :
    ((s.bank b).state == .rowOpen && some r.nextRow == (s.bank b).line.openRow) = true ↔ s.InOpenRow b r := by
  simp only [State.InOpenRow, Bool.and_eq_true, beq_iff_eq]
  rw [eq_comm (a := some r.nextRow)]

/-- What a grant by line c leaves at each place among the older records (R87). -/
theorem bypassOlder_get (b : Bank) (before rs : List Record) :
    (bypassOlder b before rs).length = rs.length ∧ ∀ j p, rs[j]? = some p →
      (bypassOlder b before rs)[j]? = some (if p.bank = b ∧ eligible (before ++ rs.take j) p then p.bypassed else p) := by
  induction rs generalizing before with
  | nil => simp [bypassOlder]
  | cons a rest ih =>
    unfold bypassOlder
    refine ⟨by simp [(ih (before ++ [a])).1], ?_⟩
    intro j p h
    cases j with
    | zero => simp at h; subst h; simp
    | succ j =>
      simp only [List.getElem?_cons_succ] at h ⊢
      rw [(ih (before ++ [a])).2 j p h]
      simp only [List.append_assoc, List.singleton_append, List.take_succ_cons]
      congr

/-- The record in flight, found. -/
theorem State.inFlight_eq {s : State} {i : Nat} {r : Record} (h : s.InFlightAt i r) : s.inFlight = some (i, r) := by
  obtain ⟨h1, h2, h3, h4⟩ := h
  have : s.queue.findIdx? (·.state == .active) = some i := by
    rw [List.findIdx?_eq_some_iff_getElem]
    rw [List.getElem?_eq_some_iff] at h1
    obtain ⟨hi, hr⟩ := h1
    refine ⟨hi, by simp [hr, h2], ?_⟩
    intro j hj
    have := h3 j _ hj (List.getElem?_eq_getElem (by omega))
    simpa using this
  simp [State.inFlight, this, h1]

/-- No word operation in progress: no ACTIVE record, or one whose bank is not TRANSFERRING. -/
theorem State.inFlight_none {s : State} (h : ∀ i r, ¬s.InFlightAt i r) :
    s.inFlight = none ∨ ∃ i r, s.inFlight = some (i, r) ∧ (s.bank r.bank).state ≠ .transferring := by
  cases hf : s.inFlight with
  | none => exact Or.inl rfl
  | some ir =>
    obtain ⟨i, r⟩ := ir
    refine Or.inr ⟨i, r, rfl, ?_⟩
    intro ht
    unfold State.inFlight at hf
    split at hf
    · simp at hf
    · rename_i k hk
      rw [List.findIdx?_eq_some_iff_getElem] at hk
      obtain ⟨hi, h2, h3⟩ := hk
      simp only [Option.map_eq_some_iff, Prod.mk.injEq] at hf
      obtain ⟨q, hq, rfl, rfl⟩ := hf
      have hq' := hq
      rw [List.getElem?_eq_getElem hi] at hq'
      simp only [Option.some.injEq] at hq'
      refine h k q ⟨hq, by rw [← hq']; simpa using h2, ?_, ht⟩
      intro j p hj hp
      have := h3 j hj
      rw [List.getElem?_eq_some_iff] at hp
      obtain ⟨_, rfl⟩ := hp
      simpa using this

/-! ### Conditions of the banks -/

/-- The data path is free when no bank is TRANSFERRING (R26). -/
theorem State.pathFree_iff (s : State) : s.pathFree = true ↔ ∀ b, (s.bank b).state ≠ .transferring := by
  unfold State.pathFree
  constructor
  · intro h b
    simp [Bank.all] at h
    cases b <;> simp_all
  · intro h; simp [Bank.all, h]

/-- A bank is READY when it is OPEN and a record of it is selected (R13). -/
theorem State.ready_iff (s : State) (b : Bank) :
    s.ready b = true ↔ (s.bank b).state = .rowOpen ∧ ∃ r ∈ s.queue, r.bank = b ∧ r.selected.isSome = true := by
  simp [State.ready]

/-- When a channel can be served, in the words of Safety.lean (R143). -/
theorem Channel.servable_iff (x : Channel) : x.servable = true ↔ x.CanBeServed := by
  unfold Channel.servable Channel.CanBeServed Channel.held
  cases x.direction <;> simp

/-- The stop causes in the words of Safety.lean (R30). -/
theorem State.stopCause_iff (s : State) (b : Bank) : s.stopCause b = true ↔ s.MustStop b := by
  unfold State.stopCause State.refreshNeed State.forcedNeed State.spotNeed State.pendingSpot State.MustStop
  simp only [Bool.or_eq_true, Bool.and_eq_true, decide_eq_true_eq, Bool.not_eq_true', List.find?_isSome, beq_iff_eq]
  constructor
  · rintro (((⟨h1, h2⟩ | ⟨h1, h2⟩) | h) | h)
    · exact Or.inl ⟨h2, Or.inl h1⟩
    · exact Or.inl ⟨h2, Or.inr h1⟩
    · exact Or.inr (Or.inl h)
    · exact Or.inr (Or.inr h)
  · rintro (⟨h1, h2 | h2⟩ | h | h)
    · exact Or.inl (Or.inl (Or.inl ⟨h2, h1⟩))
    · exact Or.inl (Or.inl (Or.inr ⟨h2, h1⟩))
    · exact Or.inl (Or.inr h)
    · exact Or.inr h

/-- The pending spot that a bank serves is the first one (R62). -/
theorem State.firstPending_iff (s : State) (b : Bank) (e : WeakEntry) : s.FirstPending b e ↔ s.pendingSpot b = some e := by
  unfold State.FirstPending State.pendingSpot
  rw [List.find?_eq_some_iff_append]
  simp only [Bool.and_eq_true, beq_iff_eq, Bool.not_eq_true', Bool.and_eq_false_iff]
  constructor
  · rintro ⟨h1, h2, a, c, h3, h4⟩
    refine ⟨⟨h1, h2⟩, a, c, h3, ?_⟩
    intro f hf
    have := h4 f hf
    by_cases hb : f.bank = b
    · right; cases hp : f.pending
      · rfl
      · exact absurd ⟨hb, hp⟩ this
    · left; simpa using hb
  · rintro ⟨⟨h1, h2⟩, a, c, h3, h4⟩
    refine ⟨h1, h2, a, c, h3, ?_⟩
    rintro f hf ⟨h5, h6⟩
    rcases h4 f hf with h | h
    · simp [h5] at h
    · simp [h6] at h

/-- A bank without a pending spot. -/
theorem State.pendingSpot_none_iff (s : State) (b : Bank) :
    (∀ e ∈ s.weak, ¬(e.bank = b ∧ e.pending = true)) ↔ s.pendingSpot b = none := by
  unfold State.pendingSpot
  rw [List.find?_eq_none]
  simp

/-- The test of R176 in the words of Safety.lean. -/
theorem State.quiesceOver_iff (u : State) : (u.queue = [] ∧ u.pathFree = true ∧ u.allPresent .closed = true) ↔ u.QuiesceOver := by
  unfold State.QuiesceOver State.pathFree State.allPresent
  simp only [List.all_eq_true, bne_iff_ne, ne_eq, Bool.or_eq_true, Bool.not_eq_true', beq_iff_eq]
  have : ∀ b : Bank, b ∈ Bank.all := by intro b; cases b <;> simp [Bank.all]
  constructor
  · rintro ⟨h1, h2, h3⟩
    refine ⟨h1, fun b => h2 b (this b), fun b hb => ?_⟩
    rcases h3 b (this b) with h | h
    · simp [h] at hb
    · exact h
  · rintro ⟨h1, h2, h3⟩
    refine ⟨h1, fun b _ => h2 b, fun b _ => ?_⟩
    cases hp : u.present b
    · exact Or.inl rfl
    · exact Or.inr (h3 b hp)

/-! ### What the choices keep -/

/-- Dropping the selection of a bank that has none changes nothing. -/
theorem State.dropSelection_id (s : State) (b : Bank)
    (h : ¬ ∃ r ∈ s.queue, r.bank = b ∧ r.selected.isSome = true) : s.dropSelection b = s := by
  have : (s.queue.map fun r => if r.bank = b then { r with selected := none } else r) = s.queue := by
    conv => rhs; rw [← List.map_id s.queue]
    apply List.map_congr_left
    intro r hr
    by_cases hb : r.bank = b
    · simp only [hb, if_true, id]
      cases hs : r.selected
      · cases r; simp at hs; subst hs; simp at hb; subst hb; rfl
      · exact absurd ⟨r, hr, hb, by simp [hs]⟩ h
    · simp [hb]
  unfold State.dropSelection
  rw [this]

/-- A bank whose selection was dropped is not READY. -/
theorem State.dropSelection_ready (s : State) (b : Bank) : (s.dropSelection b).ready b = false := by
  rw [Bool.eq_false_iff]
  unfold State.ready State.dropSelection
  intro h
  simp only [Bool.and_eq_true, List.any_eq_true, List.mem_map, beq_iff_eq] at h
  obtain ⟨_, r, ⟨q, hq, rfl⟩, h1, h2⟩ := h
  split at h1 <;> rename_i hb
  · simp [hb] at h2
  · exact hb h1

/-- Outside HOLD_ENTRY a choice leaves the mode. -/
theorem State.choose_mode (s : State) (b : Bank) (h : s.mode ≠ .holdEntry) : (s.choose b).mode = s.mode := by
  unfold State.choose
  split
  · split
    · unfold State.chooseOpen State.startPrecharge State.select State.dropSelection State.setBank
      split
      · rfl
      · split
        · split <;> rfl
        · split <;> rfl
    · unfold State.chooseClosed
      rw [if_neg (by simp [h])]
      unfold State.startRegular State.startSpot State.startActivation State.setBank
      split
      · rfl
      · split
        · rfl
        · split
          · rfl
          · split <;> rfl
  · rfl

/-- Outside HOLD_ENTRY looking again leaves the mode. -/
theorem State.reconsider_mode (s : State) (b : Bank) (h : s.mode ≠ .holdEntry) : (s.reconsider b).mode = s.mode := by
  unfold State.reconsider
  split
  · exact State.choose_mode (s.dropSelection b) b h
  · exact State.choose_mode s b h

/-- Outside HOLD_ENTRY all banks looking again leave the mode. -/
theorem State.reconsiderAll_mode (s : State) (h : s.mode ≠ .holdEntry) : s.reconsiderAll.mode = s.mode := by
  unfold State.reconsiderAll
  have a := State.reconsider_mode s .b0 h
  have b := State.reconsider_mode (s.reconsider .b0) .b1 (by rw [a]; exact h)
  have c := State.reconsider_mode ((s.reconsider .b0).reconsider .b1) .b2 (by rw [b, a]; exact h)
  have d := State.reconsider_mode (((s.reconsider .b0).reconsider .b1).reconsider .b2) .b3 (by rw [c, b, a]; exact h)
  rw [d, c, b, a]

/-- In QUIESCING the test makes the mode RUN exactly when it holds. -/
theorem State.quiesceTest_mode (u : State) (h : u.mode = .quiescing) : u.quiesceTest.mode = .run ↔ u.QuiesceOver := by
  rw [← State.quiesceOver_iff]
  unfold State.quiesceTest
  split
  · rename_i hh; simp only [true_iff, State.raise]; exact hh.2
  · rename_i hh; constructor
    · intro h'; rw [h] at h'; cases h'
    · intro h'; exact absurd ⟨h, h'⟩ hh

/-- The test never makes the mode HOLD_ENTRY. -/
theorem State.quiesceTest_ne (u : State) (h : u.mode = .quiescing) : u.quiesceTest.mode ≠ .holdEntry := by
  unfold State.quiesceTest
  split
  · intro hc; cases hc
  · rw [h]; intro hc; cases hc

/-! ### Words and fault reports -/

/-- A fault report does not touch the Host Transfer Unit. -/
theorem State.recordFault_host (s : State) (f : FaultRecord) (h : HostUnit) :
    ({ s with host := h } : State).recordFault f = { s.recordFault f with host := h } := by
  rcases s.recordFault_cases f with ⟨h1, h2⟩ | ⟨h1, h2, h3⟩ | ⟨h1, h2, h3⟩
  · rw [h2]; show (if s.faults.any f.same then _ else _) = _; rw [if_pos h1]
  · rw [h3]; show (if s.faults.any f.same then _ else if s.faults.length < 8 then _ else _) = _; rw [if_neg (by simp [h1]), if_pos h2]; rfl
  · rw [h3]; show (if s.faults.any f.same then _ else if s.faults.length < 8 then _ else _) = _
    rw [if_neg (by simp [h1]), if_neg (by omega)]; rfl

/-- A fault report does not touch the channels. -/
theorem State.recordFault_chans (s : State) (f : FaultRecord) (h : PerChan Channel) :
    ({ s with chans := h } : State).recordFault f = { s.recordFault f with chans := h } := by
  rcases s.recordFault_cases f with ⟨h1, h2⟩ | ⟨h1, h2, h3⟩ | ⟨h1, h2, h3⟩
  · rw [h2]; show (if s.faults.any f.same then _ else _) = _; rw [if_pos h1]
  · rw [h3]; show (if s.faults.any f.same then _ else if s.faults.length < 8 then _ else _) = _; rw [if_neg (by simp [h1]), if_pos h2]; rfl
  · rw [h3]; show (if s.faults.any f.same then _ else if s.faults.length < 8 then _ else _) = _
    rw [if_neg (by simp [h1]), if_neg (by omega)]; rfl

/-- A fault report does not touch the queue. -/
theorem State.recordFault_queue (s : State) (f : FaultRecord) : (s.recordFault f).queue = s.queue := by
  rw [s.recordFault_frame f]

/-- The end of a word leaves banks, mode, needs and strobe, and changes the queue at the record's place alone. -/
theorem State.endWord_keeps (s : State) (i : Nat) (r : Record) :
    (s.endWord i r).banks = s.banks ∧ (s.endWord i r).mode = s.mode ∧
      (s.endWord i r).prechargeAll = s.prechargeAll ∧ (s.endWord i r).weak = s.weak ∧ (s.endWord i r).timing = s.timing ∧
      (s.endWord i r).queue = s.queue.set i (r.wordDone (s.wordBad r)) ∧ (s.endWord i r).strobe = s.strobe := by
  have hm :
      (s.moveWord r).banks = s.banks ∧ (s.moveWord r).mode = s.mode ∧ (s.moveWord r).prechargeAll = s.prechargeAll ∧
        (s.moveWord r).weak = s.weak ∧ (s.moveWord r).timing = s.timing ∧ (s.moveWord r).queue = s.queue ∧
        (s.moveWord r).strobe = s.strobe := by
    unfold State.moveWord State.deliver State.takeWord
    split
    · split <;> exact ⟨rfl, rfl, rfl, rfl, rfl, rfl, rfl⟩
    · split <;> exact ⟨rfl, rfl, rfl, rfl, rfl, rfl, rfl⟩
    · split
      · exact ⟨rfl, rfl, rfl, rfl, rfl, rfl, rfl⟩
      · split <;> exact ⟨rfl, rfl, rfl, rfl, rfl, rfl, rfl⟩
  unfold State.endWord State.recordFaultIf
  split
  · rw [(s.moveWord r).recordFault_frame];
    exact ⟨hm.1, hm.2.1, hm.2.2.1, hm.2.2.2.1, hm.2.2.2.2.1, by simp [hm.2.2.2.2.2.1], hm.2.2.2.2.2.2⟩
  · exact ⟨hm.1, hm.2.1, hm.2.2.1, hm.2.2.2.1, hm.2.2.2.2.1, by simp [hm.2.2.2.2.2.1], hm.2.2.2.2.2.2⟩

end Sys2Proof.Machine
end

