-- ==== Sys2Proof/Laws/Store.lean ====
section
/-! SUPPORT. The store: its keys, reads after writes, and its canonical form, which every operation on it keeps. -/

namespace Sys2Proof.Machine

/-! ### Keys -/

theorem offsetOf_lt (row : Row) (col : Col) : offsetOf row col < bankWords := by
  have h1 : row.toNat < 1024 := row.isLt
  have h2 : col.toNat < 256 := col.isLt
  simp only [offsetOf, bankWords]; omega

theorem offsetOf_inj {row row' : Row} {col col' : Col} (h : offsetOf row col = offsetOf row' col') :
    row = row' ∧ col = col' := by
  have h2 : col.toNat < 256 := col.isLt
  have h4 : col'.toNat < 256 := col'.isLt
  simp only [offsetOf] at h
  exact ⟨BitVec.eq_of_toNat_eq (by omega), BitVec.eq_of_toNat_eq (by omega)⟩

theorem Bank.num_lt (b : Bank) : b.num < 4 := by cases b <;> decide

theorem Bank.num_inj {b b' : Bank} (h : b.num = b'.num) : b = b' := by
  cases b <;> cases b' <;> first | rfl | exact absurd h (by decide)

theorem wordKey_lt (b : Bank) (row : Row) (col : Col) : wordKey b row col < 4 * bankWords := by
  have := Bank.num_lt b
  have := offsetOf_lt row col
  simp only [wordKey, bankWords] at *; omega

/-- No two words of the store share a key. -/
theorem wordKey_inj {b b' : Bank} {row row' : Row} {col col' : Col} (h : wordKey b row col = wordKey b' row' col') :
    b = b' ∧ row = row' ∧ col = col' := by
  have h1 := offsetOf_lt row col
  have h2 := offsetOf_lt row' col'
  simp only [wordKey, bankWords] at h h1 h2
  have hb : b.num = b'.num := by omega
  exact ⟨Bank.num_inj hb, offsetOf_inj (by omega)⟩

/-! ### Cell lists -/

theorem lookupCell_insertCell_same (k : Nat) (w : StoreWord) (cs : List (Nat × StoreWord)) :
    lookupCell k (insertCell k w cs) = some w := by
  induction cs with
  | nil => simp [insertCell, lookupCell]
  | cons c rest ih =>
    simp only [insertCell]
    split
    · simp [lookupCell]
    · split
      · simp [lookupCell]
      · next h => simp [lookupCell, h, ih]

theorem lookupCell_insertCell_other {k k' : Nat} (w : StoreWord) (cs : List (Nat × StoreWord)) (h : k' ≠ k) :
    lookupCell k' (insertCell k w cs) = lookupCell k' cs := by
  induction cs with
  | nil => simp [insertCell, lookupCell, h]
  | cons c rest ih =>
    simp only [insertCell]
    split
    · simp [lookupCell, h]
    · split
      · next hk => simp [lookupCell, h, ← hk]
      · simp [lookupCell, ih]

/-- Every key of an inserted list is the key inserted or one of the list's. -/
theorem mem_insertCell {k : Nat} {w : StoreWord} {cs : List (Nat × StoreWord)} {c : Nat × StoreWord}
    (h : c ∈ insertCell k w cs) : c = (k, w) ∨ c ∈ cs := by
  induction cs with
  | nil => simpa [insertCell] using h
  | cons d rest ih =>
    simp only [insertCell] at h
    split at h
    · simpa using h
    · split at h
      · simp only [List.mem_cons] at h ⊢; tauto
      · simp only [List.mem_cons] at h ⊢
        rcases h with h | h
        · tauto
        · have := ih h; tauto

/-- The canonical form as a statement on all pairs. -/
theorem risingCells_iff (cs : List (Nat × StoreWord)) : risingCells cs = true ↔ cs.Pairwise fun c d => c.1 < d.1 := by
  induction cs with
  | nil => simp [risingCells]
  | cons c rest ih =>
    cases rest with
    | nil => simp [risingCells]
    | cons d rest =>
      simp only [risingCells, Bool.and_eq_true, decide_eq_true_eq, ih]
      constructor
      · rintro ⟨h1, h2⟩
        refine List.pairwise_cons.2 ⟨?_, h2⟩
        intro e he
        rcases List.mem_cons.1 he with rfl | he
        · exact h1
        · exact lt_trans h1 ((List.pairwise_cons.1 h2).1 e he)
      · intro h
        have h' := List.pairwise_cons.1 h
        exact ⟨h'.1 d (by simp), h'.2⟩

theorem risingCells_insertCell (k : Nat) (w : StoreWord) (cs : List (Nat × StoreWord)) (h : risingCells cs = true) :
    risingCells (insertCell k w cs) = true := by
  rw [risingCells_iff] at h ⊢
  induction cs with
  | nil => simp [insertCell]
  | cons c rest ih =>
    obtain ⟨h1, h2⟩ := List.pairwise_cons.1 h
    simp only [insertCell]
    split
    · next hk =>
      refine List.pairwise_cons.2 ⟨?_, h⟩
      intro e he
      rcases List.mem_cons.1 he with rfl | he
      · exact hk
      · exact lt_trans hk (h1 e he)
    · split
      · next hk =>
        subst hk
        exact List.pairwise_cons.2 ⟨h1, h2⟩
      · next hk hk' =>
        refine List.pairwise_cons.2 ⟨?_, ih h2⟩
        intro e he
        rcases mem_insertCell he with rfl | he
        · show c.1 < k; omega
        · exact h1 e he

/-! ### The canonical form is kept -/

theorem Store.wf_iff (st : Store) : st.wf = true ↔ risingCells st.cells = true ∧ ∀ c ∈ st.cells, c.1 < 4 * bankWords := by
  simp [Store.wf]

theorem Store.write_wf {st : Store} (h : st.wf = true) (b : Bank) (row : Row) (col : Col) (w : StoreWord) :
    (st.write b row col w).wf = true := by
  rw [Store.wf_iff] at h ⊢
  refine ⟨risingCells_insertCell _ _ _ h.1, ?_⟩
  intro c hc
  rcases mem_insertCell hc with rfl | hc
  · exact wordKey_lt b row col
  · exact h.2 c hc

theorem Store.lose_wf {st : Store} (h : st.wf = true) (b : Bank) : (st.lose b).wf = true := by
  rw [Store.wf_iff, risingCells_iff] at h ⊢
  refine ⟨h.1.filter _, ?_⟩
  intro c hc
  exact h.2 c (List.mem_filter.1 hc).1

theorem Store.loseAll_wf (st : Store) : st.loseAll.wf = true := rfl

theorem Store.reset_wf : State.reset.store.wf = true := rfl

/-! ### Reads and writes -/

/-- A word reads as it was written. -/
theorem Store.read_write_same (st : Store) (b : Bank) (row : Row) (col : Col) (w : StoreWord) :
    (st.write b row col w).read b row col = w := by
  simp [Store.read, Store.write, lookupCell_insertCell_same]

/-- A write leaves every other word as it was. -/
theorem Store.read_write_other (st : Store) {b b' : Bank} {row row' : Row} {col col' : Col} (w : StoreWord)
    (h : (b', row', col') ≠ (b, row, col)) : (st.write b row col w).read b' row' col' = st.read b' row' col' := by
  have hk : wordKey b' row' col' ≠ wordKey b row col := by
    intro hk
    obtain ⟨h1, h2, h3⟩ := wordKey_inj hk
    exact h (by rw [h1, h2, h3])
  simp [Store.read, Store.write, lookupCell_insertCell_other _ _ hk]

theorem lookupCell_filter {k : Nat} {p : Nat × StoreWord → Bool} (cs : List (Nat × StoreWord))
    (h : ∀ c ∈ cs, c.1 = k → p c = true) : lookupCell k (cs.filter p) = lookupCell k cs := by
  induction cs with
  | nil => rfl
  | cons c rest ih =>
    have ih' := ih fun d hd => h d (List.mem_cons_of_mem _ hd)
    by_cases hk : c.1 = k
    · simp [h c (by simp) hk, lookupCell, hk]
    · have hk' : k ≠ c.1 := fun e => hk e.symm
      by_cases hp : p c = true
      · simp [hp, lookupCell, hk', ih']
      · simp [hp, lookupCell, hk', ih']

/-- The loss of one bank's contents leaves the words of the other banks as they were. -/
theorem Store.read_lose_other (st : Store) {b b' : Bank} (row : Row) (col : Col) (h : b' ≠ b) :
    (st.lose b).read b' row col = st.read b' row col := by
  have hcell : lookupCell (wordKey b' row col) (st.lose b).cells = lookupCell (wordKey b' row col) st.cells := by
    apply lookupCell_filter
    intro c _ hc
    have := offsetOf_lt row col
    simp only [wordKey, bankWords] at hc this
    have : c.1 / bankWords = b'.num := by simp only [bankWords]; omega
    simp only [this, bne_iff_ne, ne_eq]
    exact fun e => h (Bank.num_inj e)
  have hep : (st.lose b).epoch.get b' = st.epoch.get b' := by
    cases b <;> cases b' <;> first | rfl | exact absurd rfl h
  simp only [Store.read, hcell, hep]

/-! ### Parity -/

/-- A freshly generated parity bit makes a byte good. -/
theorem byteGood_parityOf (v : Byte) : byteGood v (parityOf v) = true := by
  simp only [byteGood, parityOf]
  rcases Nat.mod_two_eq_zero_or_one (ones v) with h | h <;> simp [h, Nat.add_mod]

end Sys2Proof.Machine
end

