-- ==== Sys2Proof/Tests/Slice0.lean ====
section
/-! SUPPORT. Tests of single steps against the spec's tables and worked examples, and for every statement that has hypotheses a state
that meets them, clause by clause. -/

namespace Sys2Proof.Tests

open Sys2Proof Sys2Proof.Machine

/-! ### States to test on -/

/-- The state of an outcome that is a next state. -/
def after : Host.Outcome State Fault Refusal → State
  | .next t => t
  | .fault _ => State.reset
  | .refused _ => State.reset

/-- A lane in a state, everything else as after reset. -/
def lane (st : BankState) : BankLane := { BankLane.reset with state := st }

/-- A lane whose line holds a row. -/
def laneAt (st : BankState) (row : Row) : BankLane :=
  { BankLane.reset with state := st, line := ⟨some row, false, false, some 0⟩ }

/-- RUN with four CLOSED banks and the reset timing values. -/
def up : State :=
  { State.reset with
    mode := .run, timing := #v[0x03, 0x03, 0x06, 0x01, 0x02, 0x20, 0x86, 0x01, 0x04, 0x10, 0x00, 0x0F]
    banks := PerBank.same (lane .closed) }

/-- `up` in another mode. -/
def upIn (m : Mode) : State := { up with mode := m }

/-- `up` with one lane replaced. -/
def upBank (b : Bank) (l : BankLane) : State := up.setBank b l

/-- `up` with one channel replaced. -/
def upChan (c : Chan) (x : Channel) : State := up.setChan c x

/-- `s` with the argument registers. -/
def args (s : State) (a0 a1 a2 : Byte) : State := { s with regs := { s.regs with arg0 := a0, arg1 := a1, arg2 := a2 } }

/-- `s` with the host address registers. -/
def addr (s : State) (col rowl rowh count : Byte) : State :=
  { s with regs := { s.regs with hcol := col, hrowl := rowl, hrowh := rowh, hcount := count } }

/-- `s` with TSEL and TIDX. -/
def table (s : State) (tsel tidx : Byte) : State := { s with regs := { s.regs with tsel := tsel, tidx := tidx } }

/-- A host record. -/
def hostRec (k : Kind) (b : Bank) (row : Row) (col : Col) (n : Nat) (st : RecState) : Record :=
  { source := .host, kind := k, bank := b, row := row, col := col, count := n, order := .linear, done := 0, state := st
    urgent := false, ticksLeft := none, bypass := 0, byteWrite := none, status := .good, selected := none }

/-- A record of a channel. -/
def chanRec (c : Chan) (k : Kind) (b : Bank) (row : Row) (col : Col) (n : Nat) (st : RecState) (ticks : Nat) : Record :=
  { hostRec k b row col n st with source := .chan c, ticksLeft := some ticks }

/-- A FETCH channel on B1 at 200:0, region 64, burst 32, allowance 2, late limit 4, source REFRESH, product 4 (the spec's SC1). -/
def fetchChan (st : ChanState) : Channel :=
  { Channel.reset with
    state := st, desc := #v[0x0A, 0xC8, 0x00, 0x00, 0x40, 0x00, 0x00, 0x20, 0x02, 0x04, 0x01, 0x04, 0x00] }

/-- The same region written by a DEPOSIT channel, burst 16, source LSYNC. -/
def depositChan (st : ChanState) (words : Nat) : Channel :=
  { Channel.reset with
    state := st, desc := #v[0x13, 0xC8, 0x00, 0x00, 0x40, 0x00, 0x00, 0x10, 0x02, 0x04, 0x01, 0x04, 0x00]
    fifo := List.replicate words 0x1234 }

/-- `up` with a bank TRANSFERRING for one ACTIVE record whose next word lies in the open row. -/
def moving (r : Record) : State :=
  { upBank r.bank (laneAt .transferring r.nextRow) with queue := [{ r with state := .active }] }

/-! ### Rows and bus cycles -/

theorem test_wf_refuses_a_named_code : (Instr.unknownCommand 0x10).wf = false := by decide
theorem test_wf_refuses_a_register_with_its_own_row : (Instr.registerWrite 0x01 0x10).wf = false := by decide
theorem test_wf_takes_the_rest : (Instr.unknownCommand 0x51).wf = true ∧ (Instr.registerWrite 0x02 0x10).wf = true := by decide

theorem test_exec_refuses_terms_of_another_row :
    exec (.unknownCommand 0x10) up = .refused (.codeNamesCommand 0x10) ∧
    exec (.registerWrite 0x01 0x10) up = .refused (.registerHasOwnRow 0x01) := ⟨rfl, rfl⟩

theorem test_command_codes :
    ([0x01, 0x02, 0x03, 0x04, 0x10, 0x11, 0x12, 0x13, 0x20, 0x21, 0x22, 0x30, 0x31, 0x32, 0x40, 0x41, 0x42, 0x50, 0x00,
      0x05] : List Byte).map (fun v => rowOfCycle (.write 0x01 v)) =
    [.bringup, .hold, .wake, .trafficReset, .hostRead, .hostWrite, .hostWriteByte, .hostCancel, .chStart, .chStop,
      .chAbort, .weakAdd, .weakRemove, .weakClear, .bankPause, .bankResume, .clearLost, .faultPop, .unknownCommand 0x00,
      .unknownCommand 0x05].map some := by decide

theorem test_write_cycles :
    ([0x00, 0x02, 0x09, 0x0A, 0x0D, 0x0E, 0x0F, 0x13, 0x15, 0x1C, 0x1D, 0x1F] : List (BitVec 5)).map
      (fun a => rowOfCycle (.write a 0x5A)) =
    [.registerWrite 0x00 0x5A, .registerWrite 0x02 0x5A, .datalWrite 0x5A, .datahWrite 0x5A,
      .eventRegisterWrite .ev0 0x5A, .eventRegisterWrite .ev1 0x5A, .eventRegisterWrite .ev2 0x5A, .tselWrite 0x5A,
      .tdataWrite 0x5A, .fltlostWrite 0x5A, .causeWrite 0x5A, .registerWrite 0x1F 0x5A].map some := by decide

theorem test_read_cycles :
    ([0x09, 0x0A, 0x15, 0x00] : List (BitVec 5)).map (fun a => rowOfCycle (.read a)) =
    [some .datalRead, some .datahRead, some .tdataRead, none] := by decide

/-- R185: a read and a write cycle, CS# deasserted, and RD# and WR# together. -/
theorem test_bus_pins :
    rowOfPins ⟨true, true, false, 0x15, 0x5A⟩ = some .tdataRead ∧ rowOfPins ⟨true, false, true, 0x13, 0x5A⟩ = some (.tselWrite 0x5A) ∧
    rowOfPins ⟨false, true, false, 0x15, 0x5A⟩ = none ∧ rowOfPins ⟨true, true, true, 0x15, 0x5A⟩ = none ∧
    up.busDrives ⟨true, true, false, 0x1E, 0⟩ = some 0x82 ∧ up.busDrives ⟨true, true, true, 0x1E, 0⟩ = none := by decide

theorem test_no_word_spells_a_row : decodeTableWord 16 0x1001 = none ∧ State.reset.withFetchWord 16 0x1001 = State.reset :=
  ⟨rfl, rfl⟩

/-! ### The store -/

/-- The table of R11. -/
theorem test_parity_of_bytes :
    ([0x00, 0x01, 0x03, 0x12, 0x7F, 0x80, 0xA5, 0xFF] : List Byte).map parityOf =
    [true, false, true, true, false, false, true, true] := by decide

/-- R12's example: 12A5h is written with both bits 1, and is bad in its low byte with SP0 = 0. -/
theorem test_word_12A5 :
    (StoreWord.fresh 0x12A5).parity = 0b11 ∧ (StoreWord.mk 0x12A5 0b10).bad = true ∧
    (StoreWord.mk 0x12A5 0b10).lowGood = false ∧ (StoreWord.mk 0x12A5 0b10).highGood = true := by decide

/-- The examples of address sequences. -/
theorem test_words_of_requests :
    ((hostRec .read .b1 300 250 10 .waiting).words.map fun o => ((rowOfOffset o).toNat, (colOfOffset o).toNat)).drop 5 =
      [(300, 255), (301, 0), (301, 1), (301, 2), (301, 3)] ∧
    (({ hostRec .read .b0 40 6 4 .waiting with order := .wrap4 } : Record).words.map fun o => (colOfOffset o).toNat) =
      [6, 7, 4, 5] ∧
    (({ hostRec .write .b0 40 13 8 .waiting with order := .wrap8 } : Record).words.map fun o => (colOfOffset o).toNat) =
      [13, 14, 15, 8, 9, 10, 11, 12] := by decide

theorem test_weak_spot_rows :
    (WeakEntry.mk .b0 100 .four false 0).spotRows = [356, 612, 868] ∧ (WeakEntry.mk .b0 612 .two false 0).spotRows = [100] := by
  decide

/-! ### Modes and resets -/

theorem test_reset_is_safe : State.reset.safe = true := by decide

theorem test_bringup :
    (after (exec .bringup { State.reset with timing := up.timing, banks := PerBank.same (lane .cold) })).mode = .warming ∧
    (after (exec .bringup State.reset)).readRegister 0x01 = 0x0A := by decide

theorem test_hold :
    (after (exec .hold up)).mode = .hold ∧ (after (exec .hold up)).bank .b2 = lane .held := by decide

theorem test_wake :
    (after (exec .wake (upIn .hold))).mode = .waking ∧ (after (exec .wake up)).readRegister 0x01 = 0x02 := by decide

theorem test_traffic_reset :
    (after (exec .trafficReset (moving (hostRec .read .b2 600 6 4 .waiting)))).mode = .quiescing ∧
    (after (exec .trafficReset up)).mode = .run ∧ (after (exec .trafficReset up)).events.ev0 = 0x40 := by decide

theorem test_resets :
    after (exec .pinReset { up with events := ⟨1, 2, 3, 4, 5, 6⟩ }) =
      { State.reset with heldPin := true, store := ⟨[], PerBank.same 1⟩ } ∧
    (after (exec .powerOnReset up)).busRead 0x1E = none := by decide

theorem test_reset_end :
    (after (exec (.resetEnd .pin) { State.reset with heldPin := true, por := false })).readRegister 0x1D = 0x02 ∧
    (after (exec (.resetEnd .powerOn) { State.reset with heldPor := true, por := false, pin := true })).readRegister 0x1D =
      0x01 := by decide

theorem test_hwake_falling_edge :
    (after (exec .hwakeFallingEdge (upIn .hold))).mode = .waking ∧
    (after (exec .hwakeFallingEdge up)).events.ev0 = 0x80 := by decide

/-- R180: low at the first sample after a reset is an edge, and low after low is none. -/
theorem test_hwake_samples :
    (State.reset.sampleHwake false).events.ev0 = 0x80 ∧
    (({ State.reset with hwakeHigh := false } : State).sampleHwake false).events.ev0 = 0x00 ∧
    (({ State.reset with hwakeHigh := false } : State).sampleHwake true).hwakeHigh = true := by decide

/-- R141: high at the first sample after a reset is an edge, and high after high is none. -/
theorem test_lsync_samples :
    ((State.sampleLsync (upChan .c1 (depositChan .running 20)) .c1 true).chan .c1).period = 1 ∧
    ((State.sampleLsync (upChan .c1 { depositChan .running 20 with lsyncHigh := true }) .c1 true).chan .c1).period = 0 := by decide

/-! ### Host commands -/

/-- The example of R195: B2:600:6, WRAP4, count 4. -/
theorem test_host_read_queue_view :
    let t := after (exec .hostRead (addr up 0x06 0x58 0x1A 0x04))
    (List.range 9).map t.queueViewByte = [1, 0x10, 0x58, 0x1A, 0x06, 0x04, 0x00, 0x00, 0x00] ∧
    t.bank .b2 = lane (.activating 600) := by decide

theorem test_host_read_range :
    let t := after (exec .hostRead (addr up 0x06 0x58 0x1A 0x00))
    t.readRegister 0x01 = 0x04 ∧ t.events.ev2 = 0x80 ∧ t.queue = [] := by decide

theorem test_host_write :
    let t := after (exec .hostWrite (addr up 0x00 0x0A 0x00 0x03))
    t.queue = [hostRec .write .b0 10 0 3 .staging] ∧ t.host.writeOpen = some 3 ∧ t.bank .b0 = lane .closed := by decide

theorem test_host_write_byte :
    (after (exec .hostWriteByte (args (addr up 0x28 0x07 0x08 0x00) 0x01 0x7E 0x00))).queueViewByte 3 = 0x48 ∧
    (after (exec .hostWriteByte (args (addr up 0x28 0x07 0x08 0x00) 0x01 0x7E 0x00))).queueViewByte 8 = 0x7E := by decide

theorem test_host_cancel :
    (after (exec .hostCancel { up with queue := [hostRec .write .b0 10 0 3 .staging, hostRec .read .b1 4 0 3 .active] })).queue =
      [hostRec .read .b1 4 0 3 .active] ∧
    (after (exec .hostCancel up)).readRegister 0x01 = 0x0C := by decide

/-! ### Channel commands -/

/-- A FETCH channel in B0 with base 1020:`col`, region 1024, burst 32 (the spec's region example). -/
def edgeChan (col : Byte) : Channel :=
  { Channel.reset with desc := #v[0x00, 0xFC, 0x03, col, 0x00, 0x04, 0x00, 0x20, 0x01, 0x01, 0x01, 0x01, 0x00] }

theorem test_ch_start :
    ((after (exec .chStart (upChan .c0 (edgeChan 0)))).chan .c0).state = .running ∧
    (after (exec .chStart (upChan .c0 (edgeChan 16)))).readRegister 0x01 = 0x0B := by decide

theorem test_ch_stop :
    (after (exec .chStop (args (upChan .c1 (fetchChan .running)) 1 0 0))).events.ev1 = 0x80 ∧
    (after (exec .chStop up)).readRegister 0x01 = 0x0C := by decide

theorem test_ch_abort :
    let t := after (exec .chAbort
      { args (upChan .c1 { fetchChan .running with reserved := 64 }) 1 0 0 with
        queue := [chanRec .c1 .read .b1 200 0 32 .active 2, chanRec .c1 .read .b1 200 32 32 .waiting 2] })
    t.queue.length = 1 ∧ (t.chan .c1).state = .draining ∧ (t.chan .c1).reserved = 32 := by decide

/-! ### Refresh and weak row commands -/

/-- The example of R195: B1:900 at rate 4. -/
theorem test_weak_add :
    let t := after (exec .weakAdd (args { up with weak := [⟨.b0, 612, .two, false, 0⟩] } 0x01 0x84 0x43))
    (List.range 7).map t.weakViewByte = [2, 0x64, 0x02, 0x00, 0x84, 0x17, 0x00] := by decide

theorem test_weak_add_range :
    (after (exec .weakAdd (args up 0x01 0x84 0x33))).readRegister 0x01 = 0x04 ∧
    (after (exec .weakAdd (args up 0x01 0x84 0x07))).readRegister 0x01 = 0x04 := by decide

theorem test_weak_remove :
    (after (exec .weakRemove
      (args { up with weak := [⟨.b0, 100, .four, false, 0⟩, ⟨.b0, 356, .two, true, 0⟩, ⟨.b0, 612, .two, false, 0⟩] }
        0x00 0x64 0x01))).weak = [⟨.b0, 100, .four, false, 0⟩, ⟨.b0, 612, .two, false, 0⟩] ∧
    (after (exec .weakRemove up)).readRegister 0x01 = 0x06 := by decide

theorem test_weak_clear : (after (exec .weakClear { up with weak := [⟨.b0, 612, .two, false, 0⟩] })).weak = [] := by decide

theorem test_bank_pause :
    ((after (exec .bankPause (args up 1 0 0))).bank .b1).paused = true ∧
    (after (exec .bankPause (args (upChan .c1 (fetchChan .running)) 1 0 0))).readRegister 0x01 = 0x08 := by decide

/-- The retention example: with debt 10 and pointer 500 the first forced refresh is of row 500. -/
theorem test_bank_resume :
    ((after (exec .bankResume
      (args (upBank .b1 { lane .closed with debt := 10, pointer := 500, paused := true }) 1 0 0))).bank .b1).state =
      .refreshing .regular 500 := by decide

theorem test_clear_lost :
    ((after (exec .clearLost
      (args (upBank .b1 { lane .closed with debt := 15, lost := true, paused := true }) 1 0 0))).bank .b1) =
      { lane .closed with debt := 15, paused := true } := by decide

theorem test_fault_pop :
    let t := after (exec .faultPop { up with faults := [⟨.parityRead, .b2, some (600, 4), some .host, 1⟩] })
    (List.range 6).map t.faultViewByte = [1, 0x02, 0x58, 0x02, 0x04, 0x01] ∧ t.faults = [] := by decide

theorem test_unknown_command :
    (after (exec (.unknownCommand 0xFF) (upIn .quiescing))).readRegister 0x01 = 0x0E := by decide

/-! ### The data port and the window -/

theorem test_datal_read :
    let s : State := { up with host := { up.host with readBuf := [0x1122, 0x3C3C] } }
    (after (exec .datalRead s)).hostData = some 0x22 ∧ (after (exec .datalRead up)).events.ev0 = 0x08 := by decide

theorem test_datah_read :
    let t := after (exec .datahRead { up with host := { up.host with readBuf := [0x1122, 0x3C3C], readLatch := some 0x11 } })
    t.hostData = some 0x11 ∧ t.host.readBuf = [0x3C3C] ∧ t.host.readLatch = none := by decide

/-- The write buffer example: its third word, and the word that comes too late. -/
theorem test_datah_write :
    let s : State :=
      { up with
        queue := [hostRec .write .b0 10 0 3 .staging]
        host := { up.host with writeBuf := [0x1234, 0x5600], writeOpen := some 3, heldLow := some 0x9A } }
    let t := after (exec (.datahWrite 0xBC) s)
    t.host.writeBuf = [0x1234, 0x5600, 0xBC9A] ∧ t.host.writeOpen = none ∧ t.queue = [hostRec .write .b0 10 0 3 .waiting] ∧
    (after (exec (.datahWrite 0x02) up)).events.ev0 = 0x10 := by decide

/-- A byte written to DATAL in QUIESCING is held to the end of the quiesce, and the Host Transfer Unit then stands as after reset (R105,
R111). -/
theorem test_held_byte_leaves_with_the_quiesce :
    let s := upBank .b2 { laneAt .precharging 300 with elapsed := 3 }
    let held := after (exec (.datalWrite 0x78) { s with mode := .quiescing, prechargeAll := true })
    held.host.heldLow = some 0x78 ∧ (after (exec (.prechargeEnd .b2) held)).mode = .run ∧
      (after (exec (.prechargeEnd .b2) held)).host = State.reset.host := by decide

theorem test_datal_write : (after (exec (.datalWrite 0x78) up)).host.heldLow = some 0x78 := by decide

theorem test_tdata_read :
    let t := after (exec .tdataRead (table up 0 11))
    t.hostData = some 0x0F ∧ t.regs.tidx = 0 ∧
    (after (exec .tdataRead (table (upBank .b1 { laneAt .rowOpen 600 with pointer := 500, debt := 7 }) 4 9))).hostData =
      some 0x82 := by decide

theorem test_tdata_write :
    ((after (exec (.tdataWrite 0x05) (table State.reset 0 11))).bank .b2).state = .cold ∧
    (after (exec (.tdataWrite 0x05) (table up 0 11))).events.ev0 = 0x20 := by decide

theorem test_tsel_write :
    (after (exec (.tselWrite 5) (table up 0 11))).regs.tsel = 5 ∧ (after (exec (.tselWrite 5) (table up 0 11))).regs.tidx = 0 := by
  decide

theorem test_event_register_write :
    (after (exec (.eventRegisterWrite .ev0 0x40) { up with events := ⟨0xC1, 0xFF, 0, 0, 0, 0⟩ })).events =
      ⟨0x81, 0xFF, 0, 0, 0, 0⟩ := by decide

theorem test_fltlost_and_cause_writes :
    (after (exec (.fltlostWrite 0) { up with fltLost := 9 })).fltLost = 0 ∧
    (after (exec (.causeWrite 0x03) { up with pin := true })).readRegister 0x1D = 0x00 := by decide

theorem test_register_write :
    (after (exec (.registerWrite 0x07 0x1A) up)).regs.hbank = .b2 ∧
    after (exec (.registerWrite 0x1E 0x00) up) = up ∧ up.readRegister 0x1E = 0x82 ∧ up.readRegister 0x1F = 0x01 := by decide

/-! ### The lane -/

theorem test_lreq_asserted :
    (after (exec (.lreqAsserted .c2) (upChan .c2 (fetchChan .running)))).events.ev2 = 0x10 ∧
    (after (exec (.lreqAsserted .c1) (upChan .c1 (depositChan .running 64)))).events.ev2 = 0x20 := by decide

theorem test_lreq_withdrawn :
    ((after (exec (.lreqWithdrawn .c1) (upChan .c1 { fetchChan .running with request := .pending, lreq := true }))).chan .c1).request =
      .quiet := by decide

/-- Decision 3 of the spec's lane example: from pointer 2 SC2 has no word and SC0 is served. -/
theorem test_lane_grant :
    let s : State :=
      { up with
        lanePtr := .c2
        chans := ⟨{ Channel.reset with request := .pending, fifo := [0xAAAA] }, Channel.reset,
          { Channel.reset with request := .pending }⟩ }
    let t := after (exec .laneGrant s)
    t.strobe = some (.fetch .c0 0xAAAA) ∧ t.lanePtr = .c1 ∧ (t.chan .c0).held = 0 := by decide

theorem test_strobe_ends :
    (after (exec .fetchStrobeEnd { up with strobe := some (.fetch .c0 0xAAAA) })).strobe = none ∧
    ((after (exec (.depositStrobeEnd 0x1234) { up with strobe := some (.deposit .c1 false) })).chan .c1).fifo = [0x1234] ∧
    ((after (exec (.depositStrobeEnd 0x1234) { up with strobe := some (.deposit .c1 true) })).chan .c1).fifo = [] := by decide

/-! ### Counters -/

theorem test_lsync_rising_edge :
    ((after (exec (.lsyncRisingEdge .c1) (upChan .c1 (depositChan .running 20)))).chan .c1).period = 1 ∧
    (after (exec (.lsyncRisingEdge .c1) (upChan .c1 { depositChan .running 20 with period := 3 }))).queue.length = 1 := by decide

/-- The retention example: tick 4 raises PAUSE_DEBT, tick 16 sets LOST. -/
theorem test_tick_of_a_paused_bank :
    (after (exec (.tick ⟨.o012, .sender⟩) (upBank .b1 { lane .closed with debt := 3, paused := true }))).events.ev2 = 0x40 ∧
    (after (exec (.tick ⟨.o012, .sender⟩) (upBank .b1 { lane .closed with debt := 15, paused := true }))).faults =
      [⟨.refreshLost, .b1, none, none, 1⟩] ∧
    (after (exec (.tick ⟨.o012, .sender⟩) (upBank .b1 { lane .closed with debt := 15, paused := true }))).events.ev2 = 0x05 := by decide

/-- A tick falls due with the end of the last bank's refresh and an edge on HWAKE#: the end enters HOLD and discards the count, the edge
starts the wake, and the tick does not occur (R38, R56, R179). With the tick taken first it does. -/
theorem test_tick_discarded_at_hold :
    let s : State :=
      { upIn .holdEntry with
        prechargeAll := true, tickCount := 390
        banks := State.reset.banks.set .b1 { lane (.refreshing .regular 7) with debt := 1 }
        timing := (upIn .holdEntry).timing.set 11 0x02 }
    let waking := after (exec .hwakeFallingEdge (after (exec (.regularRefreshEnd .b1) s)))
    waking.mode = .waking ∧ after (exec (.tick ⟨.o012, .counter⟩) waking) = waking ∧
      (after (exec (.tick ⟨.o012, .sender⟩) waking)).settle = 1 ∧
      ((after (exec (.tick ⟨.o012, .counter⟩) s)).bank .b1).debt = 2 := by decide

theorem test_settle_ends :
    ((after (exec .warmupStart { upIn .warming with banks := PerBank.same (lane .cold) })).bank .b3).state = .warming ∧
    (after (exec .wakeSettleEnd { upIn .waking with banks := PerBank.same { lane .held with pointer := 87 } })).bank .b1 =
      { lane .closed with pointer := 87 } := by decide

/-- Period ticks 1 and 4 of the example of the slow peripheral. -/
theorem test_period_tick :
    (after (exec (.periodTick ⟨.c1, .sender⟩) (upChan .c1 (fetchChan .running)))).queue = [chanRec .c1 .read .b1 200 0 32 .waiting 2] ∧
    (after (exec (.periodTick ⟨.c1, .sender⟩) (upChan .c1 { fetchChan .running with fifo := List.replicate 48 0 }))).events.ev1 = 0x10 := by
  decide

theorem test_open_limit_expiry :
    ((after (exec (.openLimitExpiry .b0) (upBank .b0 (laneAt .rowOpen 20)))).bank .b0).state = .precharging ∧
    ((after (exec (.openLimitExpiry .b0) (moving (chanRec .c0 .read .b0 20 0 8 .waiting 1)))).bank .b0).state = .transferring := by
  decide

/-! ### Operations and transfers -/

theorem test_activation_end :
    let s : State := { upBank .b1 (lane (.activating 300)) with queue := [hostRec .read .b1 300 250 10 .waiting] }
    ((after (exec (.activationEnd .b1) s)).bank .b1).line.openRow = some 300 ∧
    (after (exec (.activationEnd .b1) s)).ready .b1 = true := by decide

theorem test_precharge_end :
    (after (exec (.prechargeEnd .b1) (upBank .b1 (laneAt .precharging 300)))).bank .b1 = lane .closed := by decide

/-- The weak row example: the refresh of row 356 makes the spot of B0:100 pending, and it is served at once. -/
theorem test_regular_refresh_end :
    let s : State :=
      { upBank .b0 { lane (.refreshing .regular 356) with pointer := 356, debt := 1 } with
        weak := [⟨.b0, 100, .four, false, 0⟩, ⟨.b0, 356, .two, false, 0⟩, ⟨.b0, 612, .two, false, 0⟩, ⟨.b2, 40, .two, false, 0⟩] }
    let t := after (exec (.regularRefreshEnd .b0) s)
    t.bank .b0 = { lane (.refreshing .spot 100) with pointer := 357 } ∧
    t.weak.map WeakEntry.pending = [true, false, false, false] := by decide

theorem test_spot_refresh_end :
    let s : State :=
      { upBank .b0 { lane (.refreshing .spot 100) with pointer := 357 } with weak := [⟨.b0, 100, .four, true, 0⟩] }
    (after (exec (.spotRefreshEnd .b0) s)).weak = [⟨.b0, 100, .four, false, 0⟩] ∧
    (after (exec (.spotRefreshEnd .b0) s)).bank .b0 = { lane .closed with pointer := 357 } := by decide

theorem test_warmup_refresh_end :
    let s (p : Row) : State := { upBank .b2 { lane .warming with pointer := p } with mode := .warming }
    ((after (exec (.warmupRefreshEnd .b2) (s 6))).bank .b2).state = .warming ∧
    (after (exec (.warmupRefreshEnd .b2) (s 7))).mode = .run := by decide

/-- The wrap read with a bad word: column 4 after two words, 3C3Ch with a bad low byte. -/
theorem test_word_transfer_end :
    let s : State :=
      { moving { hostRec .read .b2 600 6 4 .active with order := .wrap4, done := 2 } with
        store := Store.write State.reset.store .b2 600 4 ⟨0x3C3C, 0b10⟩ }
    let t := after (exec .wordTransferEnd s)
    t.host.readBuf = [0x3C3C] ∧ t.faults = [⟨.parityRead, .b2, some (600, 4), some .host, 1⟩] ∧
    t.queue.map Record.done = [3] ∧ (t.bank .b2).state = .transferring := by decide

/-- The byte writes against a word with a bad low byte. -/
theorem test_rmw_word_end :
    let s (l : ByteLane) : State :=
      { moving { hostRec .byteWrite .b2 7 40 1 .active with byteWrite := some (l, 0x7E) } with
        store := Store.write State.reset.store .b2 7 40 ⟨0x12A5, 0b10⟩ }
    let t (l : ByteLane) := after (exec .rmwWordEnd (s l))
    (t .high).store.read .b2 7 40 = ⟨0x12A5, 0b10⟩ ∧ (t .high).events.ev0 = 0x06 ∧
    (t .low).store.read .b2 7 40 = StoreWord.fresh 0x127E ∧ (t .low).events.ev0 = 0x02 := by decide

/-- The example of the staging write: place 3 is granted by line c, and no older record of B0 is eligible. -/
theorem test_data_path_grant :
    let q : List Record :=
      [hostRec .write .b0 40 8 4 .staging, chanRec .c0 .read .b0 40 0 16 .waiting 3,
        { chanRec .c1 .read .b0 12 64 8 .waiting 2 with selected := some .openRowLine }, hostRec .read .b3 5 0 4 .waiting]
    let t := after (exec .dataPathGrant { upBank .b0 (laneAt .rowOpen 12) with queue := q })
    t.queue.map Record.state = [.staging, .waiting, .active, .waiting] ∧ t.queue.map Record.bypass = [0, 0, 0, 0] ∧
    (t.bank .b0).state = .transferring := by decide

theorem test_candidate_of_the_staging_write_example :
    let q : List Record :=
      [hostRec .write .b0 40 8 4 .staging, chanRec .c0 .read .b0 40 0 16 .waiting 3, chanRec .c1 .read .b0 12 64 8 .waiting 2,
        hostRec .read .b3 5 0 4 .waiting]
    ({ upBank .b0 (laneAt .rowOpen 12) with queue := q } : State).candidate .b0 = some (.openRowLine, 2) ∧
    ({ up with queue := q } : State).candidate .b3 = none := by decide

theorem test_idle_step_grants :
    (after (step (moving (hostRec .read .b2 600 6 4 .waiting)))).clocks = 1 ∧
    (after (step { upBank .b2 (laneAt .rowOpen 600) with
      queue := [{ hostRec .read .b2 600 6 4 .waiting with selected := some .openRowLine }] })).pending = [.dataPathGrant] := by
  decide

/-! ### Witnesses: a state for each clause of each statement that has hypotheses -/

theorem every_bank {p : Bank → Prop} (h0 : p .b0) (h1 : p .b1) (h2 : p .b2) (h3 : p .b3) (b : Bank) : p b := by
  cases b <;> assumption

theorem every_chan {p : Chan → Prop} (h0 : p .c0) (h1 : p .c1) (h2 : p .c2) (c : Chan) : p c := by cases c <;> assumption

/-- In a queue of one record only that record can be choosable. -/
theorem choosable_alone {s : State} {b : Bank} {p : Record → Prop} {r : Record} (hq : s.queue = [r]) (j : Nat) :
    s.Choosable b p j ↔ j = 0 ∧ r.bank = b ∧ eligible [] r = true ∧ p r := by
  cases j <;> simp [State.Choosable, hq]

/-- In a queue of one record only that record can be a selection. -/
theorem selection_alone {s : State} {r q : Record} (hq : s.queue = [r]) (j : Nat) (h : s.SelectionAt j q) : j = 0 ∧ q = r := by
  cases j with
  | zero => simpa [State.SelectionAt, hq, eq_comm] using h.1
  | succ j => simp [State.SelectionAt, hq] at h

/-- A record that an OPEN bank has selected. -/
def chosen (urgent : Bool) : Record :=
  { chanRec .c1 .read .b2 600 6 4 .waiting 1 with urgent := urgent, selected := some .openRowLine }

/-- B2 READY with that record. -/
def readyState (urgent : Bool) : State := { upBank .b2 (laneAt .rowOpen 600) with queue := [chosen urgent] }

theorem witness_StepRunsTheFrontCommand :
    ({ up with pending := [.tick ⟨.o012, .sender⟩, .hold] } : State).pending = .tick ⟨.o012, .sender⟩ :: [.hold] := rfl

theorem witness_IdleStepActsOnItsOwn :
    (let s : State := { up with heldPin := true };
      s.pending = [] ∧ s.inReset = true) ∧
    (let s := readyState false;
      s.pending = [] ∧ s.inReset = false ∧ s.pathFree = true ∧ ∃ b, s.ready b = true) ∧
    (let s := upChan .c0 { Channel.reset with request := .pending, fifo := [0xAAAA] };
      s.pending = [] ∧ s.inReset = false ∧ (s.pathFree = false ∨ ∀ b, s.ready b = false) ∧ s.strobe = none ∧
        ∃ c, (s.chan c).CanBeServed) ∧
    (let s := moving (hostRec .read .b2 600 6 4 .waiting);
      s.pending = [] ∧ s.inReset = false ∧ s.pathFree = false ∧ ∀ c, ¬(s.chan c).CanBeServed) ∧
    (let s : State := { up with strobe := some (.fetch .c0 0xAAAA) };
      s.pending = [] ∧ s.inReset = false ∧ (∀ b, s.ready b = false) ∧ s.strobe ≠ none) :=
  ⟨by decide, ⟨by decide, by decide, by decide, .b2, by decide⟩,
    ⟨by decide, by decide, .inr (every_bank (by decide) (by decide) (by decide) (by decide)), by decide, .c0,
      by unfold Channel.CanBeServed; decide⟩,
    ⟨by decide, by decide, by decide,
      every_chan (by unfold Channel.CanBeServed; decide) (by unfold Channel.CanBeServed; decide)
        (by unfold Channel.CanBeServed; decide)⟩,
    ⟨by decide, by decide, every_bank (by decide) (by decide) (by decide) (by decide), by decide⟩⟩

/-- The rows that fall due at a store clock: a tick, each kind of operation's end, the open limit, a period tick and the strobes, at the
clock and one before; one TRANSFERRING bank, and two rows due together. -/
theorem witness_IdleStepActsOnItsOwn_rows :
    (let s : State := { up with tickCount := 389 };
      s.mode.timerRuns = true ∧ s.ri ≤ s.tickCount + 1) ∧
    (let s : State := { up with tickCount := 388 };
      ¬s.ri ≤ s.tickCount + 1) ∧
    (let s := upBank .b0 { lane (.activating 5) with elapsed := 2 };
      (s.bank .b0).state = .activating 5 ∧ s.tACT ≤ (s.bank .b0).elapsed + 1) ∧
    (let s := upBank .b1 { laneAt .precharging 5 with elapsed := 1 };
      (s.bank .b1).state = .precharging ∧ ¬s.tPRE ≤ (s.bank .b1).elapsed + 1) ∧
    (let s := upBank .b2 { lane (.refreshing .regular 5) with elapsed := 5 };
      (s.bank .b2).state = .refreshing .regular 5 ∧ s.tREF ≤ (s.bank .b2).elapsed + 1) ∧
    (let s := upBank .b2 { lane (.refreshing .spot 5) with elapsed := 5 };
      (s.bank .b2).state = .refreshing .spot 5 ∧ s.tREF ≤ (s.bank .b2).elapsed + 1) ∧
    (let s : State := { upBank .b2 { lane .warming with elapsed := 5 } with mode := .warming };
      (s.bank .b2).state = .warming ∧ s.tREF ≤ (s.bank .b2).elapsed + 1) ∧
    (let s := moving (hostRec .read .b2 600 6 4 .waiting);
      DueAtTheNextClock s .wordTransferEnd ∧ ¬DueAtTheNextClock s .rmwWordEnd ∧
        ∀ b b', (s.bank b).state = .transferring → (s.bank b').state = .transferring → b = b') ∧
    (let s (n : Nat) := (moving (hostRec .byteWrite .b2 7 40 1 .waiting)).setBank .b2 { laneAt .transferring 7 with elapsed := n };
      DueAtTheNextClock (s 3) .rmwWordEnd ∧ ¬DueAtTheNextClock (s 2) .rmwWordEnd ∧ ¬DueAtTheNextClock (s 3) .wordTransferEnd) ∧
    (let s (n : Nat) := upBank .b0 { laneAt .rowOpen 5 with line := ⟨some 5, false, false, some n⟩ };
      DueAtTheNextClock (s 511) (.openLimitExpiry .b0) ∧ ¬DueAtTheNextClock (s 510) (.openLimitExpiry .b0)) ∧
    (let s (n : Nat) := upChan .c1 { depositChan .running 20 with desc := (depositChan .running 20).desc.set 0 0x03, period := n };
      DueAtTheNextClock (s 3) (.periodTick ⟨.c1, .counter⟩) ∧ ¬DueAtTheNextClock (s 2) (.periodTick ⟨.c1, .counter⟩)) ∧
    (let s : State := { upChan .c0 { Channel.reset with lreq := true } with strobe := some (.fetch .c0 0xAAAA) };
      DueAtTheNextClock s .fetchStrobeEnd ∧ DueAtTheNextClock s (.lreqAsserted .c0) ∧ Instr.fetchStrobeEnd ≠ .lreqAsserted .c0) := by
  refine ⟨by decide, by decide, by decide, by decide, by decide, by decide, by decide, ⟨⟨by decide, .b2, by decide⟩, fun h => absurd h.1 (by decide), ?_⟩,
    ⟨⟨by decide, .b2, by decide⟩, ?_, fun h => absurd (by decide) h.1⟩, ⟨⟨by decide, 511, by decide⟩, ?_⟩, ⟨⟨by decide, by decide⟩, ?_⟩,
    ⟨⟨.c0, 0xAAAA, rfl⟩, ⟨by decide, .inl (by decide)⟩, by decide⟩⟩
  · intro b b' h h'; revert h h'; cases b <;> cases b' <;> decide
  · rintro ⟨_, b, h⟩; revert h; cases b <;> decide
  · rintro ⟨_, n, h, hn⟩; cases h; exact absurd hn (by decide)
  · rintro ⟨_, h⟩; exact absurd h (by decide)

theorem witness_EveryWellFormedRowAnswersNext :
    Instr.bringup.wf = true ∧ (Instr.unknownCommand 0x50).wf = false ∧ (Instr.unknownCommand 0x51).wf = true := by decide

theorem witness_ResetEndSetsTheCauseFlags :
    ({ up with heldPin := true, heldPor := true } : State).heldPin = true ∧
    ({ up with heldPor := true } : State).heldPor = true ∧ up.heldPin = false ∧ up.heldPor = false := by decide

theorem witness_BusCyclesAreNotAnsweredInReset :
    (Instr.tselWrite 4).wf = true ∧ ({ up with heldPor := true } : State).inReset = true ∧
    cycleOfRow (.tselWrite 4) = some (.write 0x13 4) ∧ cycleOfRow .datalRead = some (.read 0x09) ∧
    Instr.hwakeFallingEdge.wf = true ∧ cycleOfRow .hwakeFallingEdge = none ∧ Instr.hwakeFallingEdge ≠ .pinReset ∧
    Instr.hwakeFallingEdge ≠ .powerOnReset := by decide

theorem witness_CommandsAreRefusedByMode :
    up.inReset = false ∧ modeAnswer .bringup (upIn .quiescing).mode = some .busy ∧
    modeAnswer .trafficReset (upIn .quiescing).mode = some .mode ∧ modeAnswer .faultPop (upIn .quiescing).mode = some .busy ∧
    modeAnswer .hostCancel (upIn .hold).mode = some .mode ∧ modeAnswer .wake up.mode = some .mode := by decide

theorem witness_UnknownCodesAreRefusedInEveryMode :
    up.inReset = false ∧ namesCommand 0x00 = false ∧ namesCommand 0x51 = false ∧ namesCommand 0xFF = false := by decide

/-- SETUP with four COLD banks and a timing table. -/
def bringupState (timing : Vector Byte 12) : State :=
  { State.reset with timing := timing, banks := PerBank.same (lane .cold) }

/-- A table at both of BRINGUP's bounds: 2 × (4 + 2 + 3 + 62) = 142 = RI, and 10 + 4 + 2 = 16 = 1 × 16. -/
def tightTiming (ri : Byte) : Vector Byte 12 := #v[10, 3, 31, 4, 2, 1, ri, 0, 8, 255, 0, 0x01]

theorem witness_BringupChecksTheTimingTable :
    (up.inReset = false ∧ up.mode ≠ .setup) ∧
    (State.reset.inReset = false ∧ State.reset.mode = .setup ∧ ∀ b, State.reset.present b = false) ∧
    (let s := bringupState #v[1, 3, 6, 1, 2, 32, 0x86, 1, 4, 16, 0, 0x0F];
      s.inReset = false ∧ s.mode = .setup ∧ (∃ b, s.present b = true) ∧ ¬s.TimingInRange) ∧
    (let s := bringupState (tightTiming 141);
      s.mode = .setup ∧ s.TimingInRange ∧ ¬2 * (s.tWORD + s.tRMW + s.tPRE + 2 * s.tREF) ≤ s.ri) ∧
    (let s := bringupState (tightTiming 142);
      s.inReset = false ∧ s.mode = .setup ∧ (∃ b, s.present b = true) ∧ s.TimingInRange ∧
        2 * (s.tWORD + s.tRMW + s.tPRE + 2 * s.tREF) ≤ s.ri ∧ s.tACT + s.tWORD + s.tRMW ≤ s.openLim * 16) :=
  ⟨by decide, ⟨by decide, by decide, every_bank (by decide) (by decide) (by decide) (by decide)⟩,
    ⟨by decide, by decide, ⟨.b0, by decide⟩, by unfold State.TimingInRange; decide⟩,
    ⟨by decide, by unfold State.TimingInRange; decide, by decide⟩,
    ⟨by decide, by decide, ⟨.b0, by decide⟩, by unfold State.TimingInRange; decide, by decide, by decide⟩⟩

/-- No channel is in use and no bank is paused. -/
theorem up_is_quiet :
    (¬∃ c, (up.chan c).state = .running ∨ (up.chan c).state = .draining ∨ 0 < up.outstanding c) ∧
    ¬∃ b, (up.bank b).paused = true :=
  ⟨fun ⟨c, h⟩ => (every_chan (p := fun c => ¬((up.chan c).state = .running ∨ (up.chan c).state = .draining ∨ 0 < up.outstanding c))
      (by decide) (by decide) (by decide) c) h,
    fun ⟨b, h⟩ => (every_bank (p := fun b => ¬(up.bank b).paused = true) (by decide) (by decide) (by decide) (by decide) b) h⟩

/-- `up` with a STAGING host write, which leaves the channels and banks as they are. -/
def upStaging : State := { up with queue := [hostRec .write .b0 10 0 3 .staging] }

theorem witness_HoldEntersHoldEntry :
    (State.reset.inReset = false ∧ State.reset.mode ≠ .run) ∧
    (let s : State := { up with queue := [chanRec .c1 .read .b1 200 0 32 .waiting 2] };
      s.inReset = false ∧ s.mode = .run ∧ 0 < s.outstanding .c1) ∧
    (let s := upBank .b0 { lane .closed with paused := true };
      s.inReset = false ∧ s.mode = .run ∧ (s.bank .b0).paused = true ∧
        ¬∃ c, (s.chan c).state = .running ∨ (s.chan c).state = .draining ∨ 0 < s.outstanding c) ∧
    (upStaging.inReset = false ∧ upStaging.mode = .run ∧ upStaging.queue ≠ [] ∧ upStaging.prechargeAll = false ∧
      (¬∃ c, (upStaging.chan c).state = .running ∨ (upStaging.chan c).state = .draining ∨ 0 < upStaging.outstanding c) ∧
      ¬∃ b, (upStaging.bank b).paused = true) ∧
    (up.inReset = false ∧ up.mode = .run ∧ up.queue = []) :=
  ⟨by decide, by decide, ⟨by decide, by decide, by decide, up_is_quiet.1⟩,
    ⟨by decide, by decide, by decide, by decide,
      fun ⟨c, h⟩ => (every_chan
        (p := fun c => ¬((upStaging.chan c).state = .running ∨ (upStaging.chan c).state = .draining ∨ 0 < upStaging.outstanding c))
        (by decide) (by decide) (by decide) c) h, up_is_quiet.2⟩, by decide⟩

theorem witness_WakeStartsInHoldAlone : (upIn .hold).inReset = false ∧ (upIn .hold).mode = .hold ∧ up.mode ≠ .hold := by decide

theorem witness_TrafficResetClearsTheTraffic :
    (let s := moving (hostRec .read .b2 600 6 4 .waiting);
      s.inReset = false ∧ s.mode = .run ∧ s.queue ≠ []) ∧ up.inReset = false ∧ up.mode = .run := by decide

/-- The range examples: B3:1023:250 with 6 and with 7 words, WRAP8 with count 4, WRAP4 with count 4. -/
theorem test_transfer_range :
    (addr up 0xFA 0xFF 0x0F 0x06).TransferInRange ∧ ¬(addr up 0xFA 0xFF 0x0F 0x07).TransferInRange ∧
    ¬(addr up 0x0D 0x28 0x20 0x04).TransferInRange ∧ (addr up 0x06 0x58 0x1A 0x04).TransferInRange := by
  unfold State.TransferInRange; decide

/-- Eight records. -/
def fullQueue : List Record := List.replicate 8 (chanRec .c1 .read .b1 200 0 32 .waiting 2)

theorem witness_HostReadAdmitsARecord :
    (State.reset.inReset = false ∧ State.reset.mode ≠ .run) ∧
    (let s : State := { up with host := { up.host with readBuf := [0x1111] } };
      s.mode = .run ∧ s.host.readBuf ≠ []) ∧
    (let s : State := { up with queue := [hostRec .read .b1 4 0 3 .active] };
      s.hrdPend = true) ∧
    (let s : State := { addr up 0xFA 0xFF 0x0F 0x06 with queue := fullQueue };
      s.inReset = false ∧ s.mode = .run ∧ ¬(s.hrdPend = true ∨ s.host.readBuf ≠ []) ∧ 8 ≤ s.queue.length) ∧
    (let s : State := { addr up 0xFA 0xFF 0x0F 0x06 with queue := fullQueue.take 7 };
      s.inReset = false ∧ s.mode = .run ∧ ¬(s.hrdPend = true ∨ s.host.readBuf ≠ []) ∧ s.queue.length < 8 ∧
        s.regs.horder = some .linear) := by decide

theorem witness_HostWriteOpensTheWriteBuffer :
    (let s := upStaging;
      s.inReset = false ∧ s.mode = .run ∧ s.hwrPend = true) ∧
    (let s : State := { addr up 0xFA 0xFF 0x0F 0x06 with queue := fullQueue };
      s.hwrPend = false ∧ 8 ≤ s.queue.length) ∧
    (let s : State := { addr up 0xFA 0xFF 0x0F 0x06 with queue := fullQueue.take 7 };
      s.mode = .run ∧ s.hwrPend = false ∧ s.queue.length < 8 ∧ s.regs.horder = some .linear) := by decide

theorem witness_HostWriteByteAdmitsARecord :
    (upStaging.inReset = false ∧ upStaging.mode = .run ∧ upStaging.hwrPend = true) ∧
    (let s : State := { up with timing := timingReset };
      s.mode = .run ∧ s.hwrPend = false ∧ s.present s.regs.hbank = false) ∧
    (let s : State := { up with queue := fullQueue };
      s.hwrPend = false ∧ s.present s.regs.hbank = true ∧ 8 ≤ s.queue.length) ∧
    (let s : State := { up with queue := fullQueue.take 7 };
      s.hwrPend = false ∧ s.present s.regs.hbank = true ∧ s.queue.length < 8) := by decide

theorem witness_HostCancelWithdrawsWhatHasNotStarted :
    (up.inReset = false ∧ ¬((upIn .hold).mode = .run ∨ (upIn .hold).mode = .holdEntry)) ∧
    (up.mode = .run ∧ ∀ r ∈ up.queue, r.source ≠ .host) ∧
    (let s : State := { up with queue := [hostRec .read .b1 4 0 3 .active] };
      (∃ r ∈ s.queue, r.source = .host) ∧ ∀ r ∈ s.queue, ¬(r.state = .waiting ∨ r.state = .staging)) ∧
    (let s : State := { upStaging with mode := .holdEntry };
      s.inReset = false ∧ s.mode = .holdEntry ∧ ∃ r ∈ s.queue, r.source = .host ∧ r.state = .staging) := by decide

theorem witness_ChannelStartRunsTheChannel :
    (up.inReset = false ∧ State.reset.mode ≠ .run) ∧
    (up.mode = .run ∧ (args up 3 0 0).regs.argChan = none ∧ (args up 2 0 0).regs.argChan = some .c2) ∧
    ((upChan .c0 (fetchChan .running)).chan .c0).state = .running ∧
    ¬up.DescriptorInRange (up.chan .c0) ∧
    ((upChan .c0 (edgeChan 16)).DescriptorInRange (edgeChan 16) ∧ ¬(edgeChan 16).RegionFits) ∧
    ((upChan .c0 (edgeChan 0)).DescriptorInRange (edgeChan 0) ∧ (edgeChan 0).RegionFits ∧ (upChan .c0 (edgeChan 0)).outstanding .c0 = 0 ∧
      (edgeChan 0).state = .idle) := by
  unfold State.DescriptorInRange Channel.RegionFits; decide

/-- SC1 outstanding with a record. -/
def upBurst (st : ChanState) : State :=
  { args (upChan .c1 (fetchChan st)) 1 0 0 with queue := [chanRec .c1 .read .b1 200 0 32 .waiting 2] }

theorem witness_ChannelStopDrains :
    up.inReset = false ∧ (upBurst .draining).mode = .run ∧ (upBurst .draining).regs.argChan = some .c1 ∧
    ((upBurst .draining).chan .c1).state = .draining ∧ ((upBurst .faulted).chan .c1).state = .faulted ∧
    (((upBurst .running).chan .c1).state = .running ∧ 0 < (upBurst .running).outstanding .c1) ∧
    (let s : State := { upBurst .running with queue := [] };
      (s.chan .c1).state = .running ∧ s.outstanding .c1 = 0) := by decide

theorem witness_ChannelAbortWithdrawsWaitingRecords :
    ((upBurst .running).inReset = false ∧ (upBurst .running).mode = .run ∧ ((upBurst .running).chan .c1).state = .running ∧
      ∀ r ∈ (upBurst .running).queue, r.source = .chan .c1 ∧ r.state = .waiting) ∧
    (let s : State := { upBurst .draining with queue := [chanRec .c1 .read .b1 200 0 32 .active 2] };
      ∃ r ∈ s.queue, r.source = .chan .c1 ∧ r.state ≠ .waiting) ∧ (up.chan .c0).state = .idle := by decide

/-- Sixteen weak entries of B0. -/
def fullWeak : List WeakEntry := (List.range 16).map fun k => ⟨.b0, BitVec.ofNat 10 (40 * k), .four, k == 3, 0⟩

theorem witness_WeakAddInsertsInOrder :
    (up.inReset = false ∧ ¬((upIn .holdEntry).mode = .setup ∨ (upIn .holdEntry).mode = .run)) ∧
    ((args up 4 0 0x20).regs.argBank = none ∧ 1023 < (args up 0 0x84 0x47).regs.argRow ∧
      (args up 0 0x84 0x33).regs.argRate = none) ∧
    (let s := args { up with weak := fullWeak } 0x00 0x58 0x42;
      s.regs.argBank = some .b0 ∧ s.present .b0 = true ∧ s.regs.argRow = 600 ∧ s.regs.argRate = some .four ∧
        ∃ e ∈ s.weak, e.bank = .b0 ∧ e.row.toNat = s.regs.argRow) ∧
    (let s := args { up with weak := fullWeak } 0x01 0x84 0x43;
      16 ≤ s.weak.length ∧ s.regs.argRow = 900 ∧ ¬∃ e ∈ s.weak, e.bank = .b1 ∧ e.row.toNat = s.regs.argRow) ∧
    (let s := args { up with weak := fullWeak.take 15 } 0x03 0xFF 0x23;
      s.weak.length < 16 ∧ s.regs.argBank = some .b3 ∧ s.present .b3 = true ∧ s.regs.argRow = 1023 ∧ s.regs.argRate = some .two ∧
        ¬∃ e ∈ s.weak, e.bank = .b3 ∧ e.row.toNat = s.regs.argRow) := by decide

theorem witness_WeakRemoveAndClearEditTheListAlone :
    (State.reset.inReset = false ∧ State.reset.mode = .setup ∧ ∀ e ∈ State.reset.weak,
      ¬(State.reset.regs.argBank = some e.bank ∧ State.reset.regs.argRow = e.row.toNat)) ∧
    (let s := args { up with weak := fullWeak } 0x00 0x58 0x02;
      s.mode = .run ∧ ∃ e ∈ s.weak, s.regs.argBank = some e.bank ∧ s.regs.argRow = e.row.toNat) := by decide

theorem witness_BankCommandsSetAndClearTheirFlag :
    (up.inReset = false ∧ ¬((upIn .waking).mode = .run ∨ (upIn .waking).mode = .holdEntry ∨ (upIn .waking).mode = .hold)) ∧
    ((args up 4 0 0).regs.argBank = none ∧ (args up 3 0 0).regs.argBank = some .b3 ∧ (args up 3 0 0).present .b3 = true) ∧
    ((up.bank .b3).lost = false ∧ ((upBank .b3 { lane .closed with lost := true }).bank .b3).lost = true) ∧
    ((up.bank .b3).paused = false ∧ ((upBank .b3 { lane .closed with paused := true }).bank .b3).paused = true) ∧
    (let s := upBurst .draining;
      ∃ c, ((s.chan c).state = .running ∨ (s.chan c).state = .draining) ∧ (s.chan c).bank = .b1) ∧
    ¬∃ c, ((up.chan c).state = .running ∨ (up.chan c).state = .draining) ∧ (up.chan c).bank = .b3 :=
  ⟨by decide, by decide, by decide, by decide, ⟨.c1, by decide⟩,
    fun ⟨c, h, _⟩ => up_is_quiet.1 ⟨c, h.elim .inl fun h => .inr (.inl h)⟩⟩

theorem witness_FaultPopMovesTheOldestRecord :
    (upIn .quiescing).inReset = false ∧ (upIn .quiescing).mode = .quiescing ∧ up.mode ≠ .quiescing ∧ up.faults = [] ∧
    ({ up with faults := [⟨.refreshLost, .b1, none, none, 2⟩] } : State).faults = ⟨.refreshLost, .b1, none, none, 2⟩ :: [] := by
  decide

theorem witness_DataPortReadsDeliverWords :
    (let s : State := { up with host := { up.host with readBuf := [0x3C3C], readLatch := some 0x3C } };
      s.inReset = false ∧ s.hrdPend = false ∧ s.host.readBuf = 0x3C3C :: [] ∧ s.host.readLatch = some 0x3C) ∧
    (let s : State := { up with queue := [hostRec .read .b1 4 0 3 .active] };
      s.hrdPend = true) ∧ up.host.readBuf = [] ∧ up.host.readLatch = none := by decide

theorem witness_DataPortWritesFormWords :
    (let s : State := { up with host := { up.host with writeBuf := [1, 2, 3], writeOpen := some 3 } };
      s.inReset = false ∧ s.host.writeOpen = some 3 ∧ 3 ≤ s.host.writeBuf.length) ∧ up.host.writeOpen = none ∧
    (let s : State := { up with host := { up.host with writeBuf := [1], writeOpen := some 3 } };
      s.host.writeOpen = some 3 ∧ s.host.writeBuf.length + 1 < 3) ∧
    (let s : State := { up with host := { up.host with writeBuf := [1, 2], writeOpen := some 3 } };
      s.host.writeOpen = some 3 ∧ s.host.writeBuf.length + 1 = 3) := by decide

theorem witness_TableReadsReturnTheByteAtTheIndex :
    (table up 0 11).inReset = false ∧ tableSizeOf (table up 0 12).regs.tsel ≤ (table up 0 12).regs.tidx.toNat ∧
    9 ≤ (table up 9 0).regs.tsel.toNat ∧ (table up 0 11).timing[(table up 0 11).regs.tidx.toNat]? = some 0x0F ∧
    (table up 3 0).regs.tsel.toNat = Chan.c2.num + 1 ∧ ((table up 3 12).chan .c2).desc[(table up 3 12).regs.tidx.toNat]? = some 0 ∧
    (table up 4 24).regs.tidx.toNat = 6 + 6 * Bank.b3.num ∧ ((table up 4 24).bank .b3).debt ≤ 15 ∧
    (table up 4 19).regs.tidx.toNat = 1 + 6 * Bank.b3.num := by decide

theorem witness_TableReadsReturnTheByteAtTheIndex_views :
    ((table up 5 48).regs.tsel = 5 ∧ (table up 5 48).regs.tidx.toNat = 1 + 3 * 15 + 2 ∧ (fullWeak[15]?).isSome = true ∧
      up.weak.length ≤ 15) ∧
    ((table up 6 5).regs.tsel = 6 ∧ (faultPlace ⟨.refreshLost, .b1, none, none, 2⟩)[(table up 6 5).regs.tidx.toNat]? = some 2 ∧
      up.faultView = none) ∧
    ((table up 7 64).regs.tsel = 7 ∧ (table up 7 64).regs.tidx.toNat = 1 + 8 * 7 + 7 ∧ (fullQueue[7]?).isSome = true) ∧
    ((table up 8 26).regs.tsel = 8 ∧ (table up 8 26).regs.tidx.toNat = 9 * Chan.c2.num + 8) := by decide

/-- The layouts of the views on the examples of R195: B1:900 at rate 4; a REFRESH_LOST record of B1; B2:600:6, WRAP4, count 4. -/
theorem test_layouts_of_the_views :
    weakPlace ⟨.b1, 900, .four, false, 0⟩ = [0x84, 0x17, 0x00] ∧
    faultPlace ⟨.refreshLost, .b1, none, none, 2⟩ = [0x04, 0x9D, 0x00, 0x00, 0x00, 0x02] ∧
    queuePlace { hostRec .read .b2 600 6 4 .waiting with order := .wrap4 } = [0x10, 0x58, 0x1A, 0x06, 0x04, 0x00, 0x00, 0x00] := by
  decide

theorem witness_TableWritesAreTakenOrRefused :
    ((table State.reset 0 9).inReset = false ∧ (table State.reset 0 9).regs.tsel = 0 ∧ (table State.reset 0 9).mode = .setup ∧
      (table State.reset 0 9).regs.tidx.toNat < 10) ∧
    (table State.reset 0 10).regs.tidx.toNat = 10 ∧ (table State.reset 0 11).regs.tidx.toNat = 11 ∧
    (let s := table (upChan .c2 (fetchChan .faulted)) 3 12;
      s.regs.tsel.toNat = Chan.c2.num + 1 ∧ s.regs.tidx.toNat < 13 ∧ (s.chan .c2).state = .faulted ∧ s.outstanding .c2 = 0) ∧
    (up.mode ≠ .setup ∧ tableSizeOf 3 ≤ (table up 3 13).regs.tidx.toNat ∧ 4 ≤ (table up 4 0).regs.tsel.toNat) ∧
    (let s := table (upBurst .faulted) 2 0;
      ∃ c : Chan, s.regs.tsel.toNat = c.num + 1 ∧
        ((s.chan c).state = .running ∨ (s.chan c).state = .draining ∨ 0 < s.outstanding c)) :=
  ⟨by decide, by decide, by decide, by decide, by decide, ⟨.c1, by decide⟩⟩

theorem witness_AcknowledgeWritesClearWhatTheyName : up.inReset = false := by decide

theorem witness_PlainRegistersReadBack :
    up.inReset = false ∧ ((0x02 : BitVec 5) ≤ 0x08 ∧ (0x08 : BitVec 5) ≤ 0x08) ∧ ((0x10 : BitVec 5) ≤ 0x12 ∧ (0x12 : BitVec 5) ≤ 0x12) ∧
    ((0x16 : BitVec 5) ≤ 0x1B ∧ (0x1B : BitVec 5) ≤ 0x1B) ∧ hasOwnWriteRow 0x1D = true := by decide

theorem witness_LaneRequestsAreSeenAndWithdrawn :
    (let s := upChan .c1 (fetchChan .running);
      s.inReset = false ∧ (s.chan .c1).request = .quiet ∧ s.strobe = none ∧ (s.chan .c1).direction = .fetch ∧
        (s.chan .c1).fifo.length = 0) ∧
    (let s := upChan .c1 (depositChan .running 64);
      s.strobe = none ∧ (s.chan .c1).direction = .deposit ∧ (s.chan .c1).state = .running ∧ (s.chan .c1).fifo.length = 64) ∧
    (let s := upChan .c1 (depositChan .running 63);
      ¬((s.chan .c1).direction = .fetch ∧ (s.chan .c1).fifo.length = 0) ∧
        ¬((s.chan .c1).direction = .deposit ∧ (s.chan .c1).state = .running ∧ (s.chan .c1).fifo.length = 64)) ∧
    ((upChan .c1 { fetchChan .running with request := .pending }).chan .c1).request = .pending ∧
    ∃ w, ({ up with strobe := some (.fetch .c1 0xAAAA) } : State).strobe = some (.fetch .c1 w) :=
  ⟨by decide, by decide, by decide, by decide, 0xAAAA, rfl⟩

/-- A request that waits. -/
def asking (x : Channel) : Channel := { x with request := .pending }

theorem witness_LaneGrantServesTheFirstFromThePointer :
    (let s : State := { upChan .c2 (asking { Channel.reset with fifo := [0xAAAA] }) with lanePtr := .c0 };
      s.inReset = false ∧ s.strobe = none ∧ (s.chan .c2).CanBeServed ∧
        (.c2 = s.lanePtr.next.next ∧ ¬(s.chan s.lanePtr).CanBeServed ∧ ¬(s.chan s.lanePtr.next).CanBeServed) ∧
        (s.chan .c2).direction = .fetch ∧ (s.chan .c2).fifo = 0xAAAA :: []) ∧
    (let s : State := { upChan .c1 (asking (depositChan .running 63)) with lanePtr := .c1 };
      s.strobe = none ∧ (s.chan .c1).CanBeServed ∧ .c1 = s.lanePtr ∧ (s.chan .c1).direction = .deposit) ∧
    (let s : State := { upChan .c0 (asking { Channel.reset with fifo := [0xAAAA] }) with lanePtr := .c2 };
      (s.chan .c0).CanBeServed ∧ .c0 = s.lanePtr.next ∧ ¬(s.chan s.lanePtr).CanBeServed) := by
  unfold Channel.CanBeServed; decide

theorem witness_LaneGrantServesTheFirstFromThePointer_idle :
    ({ up with strobe := some (.fetch .c0 0xAAAA) } : State).strobe ≠ none ∧
    ∀ c, ¬((upChan .c1 (asking (depositChan .draining 63))).chan c).CanBeServed :=
  ⟨by decide, every_chan (by unfold Channel.CanBeServed; decide) (by unfold Channel.CanBeServed; decide)
    (by unfold Channel.CanBeServed; decide)⟩

theorem witness_StrobeEndsAnswerTheRequest :
    up.inReset = false ∧ ({ up with strobe := some (.fetch .c0 0xAAAA) } : State).strobe = some (.fetch .c0 0xAAAA) ∧
    ({ up with strobe := some (.deposit .c1 false) } : State).strobe = some (.deposit .c1 false) ∧
    ({ up with strobe := some (.deposit .c1 true) } : State).strobe = some (.deposit .c1 true) ∧
    (∀ d v, up.strobe ≠ some (.fetch d v)) ∧ ∀ d f, up.strobe ≠ some (.deposit d f) :=
  ⟨by decide, by decide, by decide, by decide, fun _ _ h => (nomatch h), fun _ _ h => (nomatch h)⟩

theorem witness_SourceEventsLeadToPeriodTicks :
    (let s := upChan .c1 { depositChan .running 20 with period := 3 };
      s.inReset = false ∧ (s.chan .c1).source = .lsync ∧
        (s.chan .c1).prescale * (s.chan .c1).scale * (s.chan .c1).bound ≤ (s.chan .c1).period + 1) ∧
    (let s := upChan .c1 { depositChan .running 20 with period := 2 };
      (s.chan .c1).source = .lsync ∧ (s.chan .c1).period + 1 < (s.chan .c1).prescale * (s.chan .c1).scale * (s.chan .c1).bound) ∧
    (let s := upChan .c1 { fetchChan .running with period := 3 };
      (s.chan .c1).source = .refresh ∧
        (s.chan .c1).prescale * (s.chan .c1).scale * (s.chan .c1).bound ≤ (s.chan .c1).period + 1) ∧
    (let s := upChan .c1 { fetchChan .running with period := 2 };
      (s.chan .c1).source ≠ .lsync ∧ (s.chan .c1).source = .refresh ∧
        (s.chan .c1).period + 1 < (s.chan .c1).prescale * (s.chan .c1).scale * (s.chan .c1).bound) ∧
    (up.chan .c0).source ≠ .refresh := by decide

theorem witness_TicksRaiseTheDebts :
    ({ up with tickCount := 390 } : State).ri ≤ 390 ∧ up.tickCount < up.ri ∧ State.reset.inReset = false ∧ State.reset.mode = .setup ∧ up.mode = .run ∧
    (let s := upBank .b1 { lane .closed with debt := 14 };
      (s.bank .b1).state.takesTick = true ∧ (s.bank .b1).debt < 15) ∧
    (let s := upBank .b1 { lane .closed with debt := 15 };
      (s.bank .b1).state.takesTick = true ∧ ¬(s.bank .b1).debt < 15 ∧ (s.bank .b1).lost = false) ∧
    (lane .held).state.takesTick = false := by decide

theorem witness_TicksCountTheSettle :
    (let s : State := { upIn .warming with settle := 14 };
      s.inReset = false ∧ s.mode = .warming ∧ s.settle + 1 < s.settleLimit) ∧
    (let s : State := { upIn .warming with settle := 15 };
      s.mode = .warming ∧ s.settle + 1 = s.settleLimit) ∧
    (let s : State := { upIn .waking with settle := 16 };
      s.mode = .waking ∧ s.settleLimit ≤ s.settle) ∧
    (let s : State := { upIn .waking with settle := 15 };
      s.mode = .waking ∧ s.settle + 1 = s.settleLimit) ∧ up.mode ≠ .warming ∧ up.mode ≠ .waking := by decide

/-- SC1 RUNNING with a number of records outstanding, words in its FIFO, and other records behind. -/
def beating (late words : Nat) (q : List Record) : State :=
  { upChan .c1 { fetchChan .running with late := late, fifo := List.replicate words 0 } with queue := q }

/-- A burst with one tick left. -/
def ageing : Record := chanRec .c1 .read .b1 200 0 32 .waiting 1

theorem witness_PeriodTicksAgeSlipAndPost :
    (let x := fetchChan .running;
      x.period < x.prescale * x.scale * x.bound ∧ x.prescale * x.scale * x.bound ≤ ({ x with period := 4 } : Channel).period) ∧
    (let s := beating 3 0 [ageing];
      s.inReset = false ∧ (s.chan .c1).state = .running ∧
        (s.queue.countP fun r => r.source == .chan .c1 && r.ticksLeft == some 1) = 1 ∧
        (s.chan .c1).lateLimit ≤ min 15 ((s.chan .c1).late + 1)) ∧
    (let s := beating 3 0 [chanRec .c1 .read .b1 200 0 32 .waiting 0, chanRec .c1 .read .b1 200 0 32 .waiting 0, chanRec .c1 .read .b1 200 0 32 .waiting 0];
      (s.chan .c1).late < (s.chan .c1).lateLimit ∧ 3 ≤ s.outstanding .c1) ∧
    (let s := beating 0 0 (List.replicate 8 (hostRec .read .b1 4 0 3 .waiting));
      s.outstanding .c1 < 3 ∧ 8 ≤ s.queue.length) ∧
    (let s := beating 0 33 [];
      s.outstanding .c1 < 3 ∧ s.queue.length < 8 ∧ (s.chan .c1).direction = .fetch ∧
        64 - (s.chan .c1).fifo.length - (s.chan .c1).reserved < (s.chan .c1).burst) ∧
    (let s := beating 0 32 [];
      (s.chan .c1).late < (s.chan .c1).lateLimit ∧ (s.chan .c1).burst ≤ 64 - (s.chan .c1).fifo.length - (s.chan .c1).reserved) ∧
    (let s := upChan .c1 (depositChan .running 16);
      (s.chan .c1).direction = .deposit ∧ (s.chan .c1).burst ≤ (s.chan .c1).fifo.length - (s.chan .c1).claimed) ∧
    ((upBurst .draining).chan .c1).state ≠ .running := by decide

theorem witness_OpenLimitsExpire :
    (let s := moving (hostRec .read .b2 600 6 4 .waiting);
      s.inReset = false ∧ (s.bank .b2).line.timer.isSome = true ∧ (s.bank .b2).state = .transferring) ∧
    (let s := readyState false;
      (s.bank .b2).line.timer.isSome = true ∧ (s.bank .b2).state = .rowOpen ∧ s.mode = .run) ∧
    (let s : State := { readyState false with mode := .warming };
      (s.bank .b2).line.timer.isSome = true ∧ (s.bank .b2).state = .rowOpen ∧ s.mode ≠ .run ∧ s.mode ≠ .quiescing ∧
        s.mode ≠ .holdEntry) ∧ (up.bank .b2).line.timer = none := by decide

theorem witness_ActivationsOpenAndPrechargesClose :
    (let s := upBank .b1 (lane (.activating 300));
      s.inReset = false ∧ (s.bank .b1).state = .activating 300 ∧ s.mode ≠ .quiescing) ∧
    (let s : State := { upBank .b1 (laneAt .precharging 300) with mode := .quiescing };
      s.inReset = false ∧ (s.bank .b1).state = .precharging ∧ s.mode = .quiescing) ∧
    ((upIn .quiescing).QuiesceOver ∧ ¬({ upStaging with mode := .quiescing } : State).QuiesceOver) ∧
    (∀ row, (up.bank .b1).state ≠ .activating row) ∧ (up.bank .b1).state ≠ .precharging :=
  ⟨by decide, by decide,
    ⟨⟨rfl, every_bank (by decide) (by decide) (by decide) (by decide), every_bank (by decide) (by decide) (by decide) (by decide)⟩,
      fun h => nomatch h.1⟩, fun _ h => (nomatch h), by decide⟩

theorem witness_RefreshEndsReportToTheWeakList :
    (let s := upBank .b0 { lane (.refreshing .regular 1023) with pointer := 1023, debt := 1 };
      s.inReset = false ∧ (s.bank .b0).state = .refreshing .regular 1023) ∧
    (let s : State := { upBank .b0 (lane (.refreshing .spot 100)) with mode := .quiescing };
      (s.bank .b0).state = .refreshing .spot 100 ∧ s.mode = .quiescing) ∧
    (∀ row, (up.bank .b0).state ≠ .refreshing .regular row) ∧ ∀ row, (up.bank .b0).state ≠ .refreshing .spot row :=
  ⟨by decide, by decide, fun _ h => (nomatch h), fun _ h => (nomatch h)⟩

theorem witness_WarmupRefreshesBringTheBanksUp :
    (let s : State := { upBank .b2 { lane .warming with pointer := 6 } with mode := .warming };
      s.inReset = false ∧ (s.bank .b2).state = .warming ∧ ((s.bank .b2).pointer + 1).toNat < 8) ∧
    (let s : State := { upBank .b2 { lane .warming with pointer := 7 } with mode := .warming };
      (s.bank .b2).state = .warming ∧ 8 ≤ ((s.bank .b2).pointer + 1).toNat ∧ s.mode = .warming ∧
        ∀ b', b' ≠ .b2 → s.present b' = true → (s.bank b').state = .closed) ∧
    (let s : State := { upIn .warming with banks := PerBank.same { lane .warming with pointer := 7 } };
      (s.bank .b2).state = .warming ∧ ¬∀ b', b' ≠ .b2 → s.present b' = true → (s.bank b').state = .closed) ∧
    (up.bank .b2).state ≠ .warming :=
  ⟨by decide, ⟨by decide, by decide, by decide, every_bank (by decide) (by decide) (by decide) (by decide)⟩,
    ⟨by decide, fun h => absurd (h .b0 (by decide) (by decide)) (by decide)⟩, by decide⟩

theorem in_flight_alone (r : Record) : (moving r).InFlightAt 0 { r with state := .active } :=
  ⟨rfl, rfl, fun _ _ h => absurd h (Nat.not_lt_zero _), by
    simp only [moving, upBank, State.bank, State.setBank]; cases r.bank <;> rfl⟩

theorem witness_WordsMoveAndTheRunGoesOn :
    (let s := moving (hostRec .read .b2 600 6 4 .waiting);
      s.inReset = false ∧ s.mode ≠ .quiescing ∧ s.InFlightAt 0 (hostRec .read .b2 600 6 4 .active) ∧ 0 + 1 < 4 ∧
        (s.bank .b2).line.openRow = some ({ hostRec .read .b2 600 6 4 .active with done := 1 } : Record).nextRow ∧ ¬s.MustStop .b2) ∧
    (let r : Record := { hostRec .read .b1 300 250 10 .active with done := 5 };
      (moving r).InFlightAt 0 r ∧ ((moving r).bank .b1).line.openRow ≠ some ({ r with done := 6 } : Record).nextRow) ∧
    (let s := (moving (hostRec .read .b2 600 6 4 .waiting)).setBank .b2 { laneAt .transferring 600 with debt := 4 };
      s.MustStop .b2) ∧
    ∀ i r, ¬up.InFlightAt i r :=
  ⟨⟨by decide, by decide, in_flight_alone _, by decide, by decide, by unfold State.MustStop; decide⟩,
    ⟨in_flight_alone _, by decide⟩, by unfold State.MustStop; decide, fun _ _ h => (nomatch h.1)⟩

theorem witness_LastWordsCompleteTheirRecord :
    (let r : Record := { hostRec .byteWrite .b2 7 40 1 .active with byteWrite := some (.high, 0x7E) };
      (moving r).inReset = false ∧ (moving r).InFlightAt 0 r ∧ (moving r).mode ≠ .quiescing ∧ r.count ≤ r.done + 1) ∧
    (let r : Record := { chanRec .c1 .read .b1 200 0 32 .active 2 with done := 31 };
      (moving r).InFlightAt 0 r ∧ r.count ≤ r.done + 1) :=
  ⟨⟨by decide, in_flight_alone _, by decide, by decide⟩, in_flight_alone _, by decide⟩

theorem witness_QuiescingRemovesTheRecordInFlight :
    let r := hostRec .read .b2 600 6 4 .active
    let s : State := { moving r with mode := .quiescing, prechargeAll := true }
    s.inReset = false ∧ s.InFlightAt 0 r ∧ s.mode = .quiescing :=
  ⟨by decide, in_flight_alone (hostRec .read .b2 600 6 4 .active), rfl⟩

theorem witness_GrantsNameTheOldestSelection :
    ((readyState true).inReset = false ∧ (readyState true).pathFree = true ∧ (readyState true).GrantNames 0 (chosen true)) ∧
    ((readyState false).pathFree = true ∧ (readyState false).GrantNames 0 (chosen false)) ∧
    (moving (chosen true)).pathFree = false ∧ ∀ i r, ¬up.SelectionAt i r :=
  ⟨⟨by decide, by decide, ⟨rfl, rfl, rfl⟩, .inl ⟨rfl, fun _ _ h => absurd h (Nat.not_lt_zero _)⟩⟩,
    ⟨by decide, ⟨rfl, rfl, rfl⟩,
      .inr ⟨fun j q h => (selection_alone rfl j h).2 ▸ rfl, fun _ _ h => absurd h (Nat.not_lt_zero _)⟩⟩,
    by decide, fun _ _ h => (nomatch h.1)⟩

/-- `up` with B2 OPEN at a row and one record for it. -/
def offering (row : Row) (r : Record) : State := { upBank .b2 (laneAt .rowOpen row) with queue := [r] }

theorem witness_CandidatesFollowTheLines :
    (offering 600 { chosen true with selected := none }).CandidateBy .b2 .urgentLine 0 ∧
    (offering 600 { chosen false with selected := none, bypass := 8 }).CandidateBy .b2 .bypassLine 0 ∧
    (offering 600 { chosen false with selected := none }).CandidateBy .b2 .openRowLine 0 ∧
    (offering 601 { chosen false with selected := none }).CandidateBy .b2 .oldestLine 0 := by
  refine ⟨⟨⟨_, rfl, rfl, rfl, rfl⟩, fun _ h => absurd h (Nat.not_lt_zero _)⟩, ⟨?_, ⟨_, rfl, rfl, rfl, rfl⟩, fun _ h => absurd h (Nat.not_lt_zero _)⟩,
    ⟨?_, ?_, ⟨_, rfl, rfl, by decide, rfl, by decide⟩, fun _ h => absurd h (Nat.not_lt_zero _)⟩,
    ⟨?_, ?_, ?_, ⟨_, rfl, rfl, rfl, trivial⟩, fun _ h => absurd h (Nat.not_lt_zero _)⟩⟩ <;>
    (intro j h; have h := ((choosable_alone rfl j).1 h).2.2.2; revert h; simp only [State.InOpenRow]; decide)

theorem witness_ClosedBanksChoose :
    (let s : State := { upBank .b1 { lane .closed with debt := 1 } with mode := .holdEntry, prechargeAll := true };
      (s.bank .b1).state = .closed ∧ s.mode = .holdEntry ∧ s.prechargeAll = true ∧ 0 < (s.bank .b1).debt) ∧
    (let e : WeakEntry := ⟨.b0, 120, .four, true, 0⟩;
      let s : State := { upIn .holdEntry with prechargeAll := true, weak := fullWeak };
      (s.bank .b0).state = .closed ∧ (s.bank .b0).debt = 0 ∧ s.FirstPending .b0 e) ∧
    (let s : State := { upIn .holdEntry with prechargeAll := true, banks := ⟨lane .closed, lane .held, lane .held, lane .held⟩ };
      ∀ b', b' ≠ .b0 → s.present b' = true → (s.bank b').state = .held) ∧
    (let s := upBank .b1 { lane .closed with debt := 4 };
      (s.bank .b1).paused = false ∧ s.pl ≤ (s.bank .b1).debt ∧ ¬(s.mode = .holdEntry ∧ s.prechargeAll = true)) ∧
    (let s : State := { upBank .b0 { lane .closed with debt := 3 } with weak := fullWeak };
      (s.bank .b0).debt < s.pl ∧ s.FirstPending .b0 ⟨.b0, 120, .four, true, 0⟩) ∧
    (let s : State := { up with queue := [{ chosen true with selected := none }] };
      (s.bank .b2).debt < s.pl ∧ s.CandidateBy .b2 .urgentLine 0) ∧
    (let s := upBank .b1 { lane .closed with debt := 3 };
      (∀ i, ¬s.Choosable .b1 (fun _ => True) i) ∧ 0 < (s.bank .b1).debt ∧ (s.bank .b1).debt < s.pl) ∧
    (let s := upBank .b1 { lane .closed with debt := 15, paused := true };
      (s.bank .b1).paused = true ∧ ∀ i, ¬s.Choosable .b1 (fun _ => True) i) :=
  ⟨by decide, ⟨by decide, by decide, rfl, rfl, fullWeak.take 3, fullWeak.drop 4, by decide, by decide⟩,
    every_bank (by decide) (by decide) (by decide) (by decide), by decide,
    ⟨by decide, rfl, rfl, fullWeak.take 3, fullWeak.drop 4, by decide, by decide⟩,
    ⟨by decide, ⟨_, rfl, rfl, rfl, rfl⟩, fun _ h => absurd h (Nat.not_lt_zero _)⟩,
    ⟨fun _ h => (nomatch h.choose_spec.1), by decide, by decide⟩, ⟨by decide, fun _ h => (nomatch h.choose_spec.1)⟩⟩

theorem witness_OpenBanksChoose :
    (let s : State := { readyState false with prechargeAll := true, mode := .quiescing };
      (s.bank .b2).state = .rowOpen ∧ s.mode = .quiescing ∧ s.MustStop .b2) ∧
    (¬(readyState false).MustStop .b2 ∧ ∃ r ∈ (readyState false).queue, r.bank = .b2 ∧ r.selected.isSome = true) ∧
    (let r : Record := { chosen true with selected := none };
      ¬(offering 601 r).MustStop .b2 ∧ (offering 601 r).CandidateBy .b2 .urgentLine 0 ∧ ¬(offering 601 r).InOpenRow .b2 r ∧
        (offering 600 r).InOpenRow .b2 r ∧ ¬∃ q ∈ (offering 600 r).queue, q.bank = .b2 ∧ q.selected.isSome = true) ∧
    (let s := upBank .b2 (laneAt .rowOpen 600);
      (∀ i, ¬s.Choosable .b2 (fun _ => True) i) ∧ (s.bank .b2).line.openPage = false) ∧
    ((lane .held).state ≠ .rowOpen ∧ (lane .held).state ≠ .closed) :=
  ⟨⟨by decide, by decide, .inr (.inr rfl)⟩, ⟨by unfold State.MustStop; decide, by decide⟩,
    ⟨by unfold State.MustStop; decide, ⟨⟨_, rfl, rfl, rfl, rfl⟩, fun _ h => absurd h (Nat.not_lt_zero _)⟩,
      by unfold State.InOpenRow; decide, by unfold State.InOpenRow; decide, by decide⟩,
    ⟨fun _ h => (nomatch h.choose_spec.1), by decide⟩, by decide⟩

theorem witness_FaultReportsAreMergedAppendedOrLost :
    let f : FaultRecord := ⟨.parityRead, .b2, some (600, 4), some .host, 1⟩
    let g : FaultRecord := ⟨.refreshLost, .b1, none, none, 255⟩
    (({ up with faults := [g, f] } : State).faults = [g] ++ f :: [] ∧ ¬(f.kind = g.kind ∧ f.bank = g.bank ∧ f.place = g.place)) ∧
    (({ up with faults := List.replicate 7 g } : State).faults.length < 8 ∧ 8 ≤ (List.replicate 8 g).length ∧
      ∀ h ∈ List.replicate 8 g, ¬(f.kind = h.kind ∧ f.bank = h.bank ∧ f.place = h.place)) := by decide

theorem witness_StatusRegistersShowTheState :
    (upBurst .running).outstanding .c1 ≤ 3 ∧ State.reset.host.readBuf.length < 256 ∧ State.reset.host.writeBuf.length < 256 ∧
    State.reset.queue.length < 256 ∧ State.reset.faults.length < 256 ∧ State.reset.fltLost < 256 := by decide

/-- The words in flight whose pins are claimed: a read, a write from the write buffer and from a FIFO, the three parts of an RMW word with a
good and with a bad untouched byte, and no word at all. -/
theorem witness_StatusRegistersShowTheState_pins :
    ((moving (hostRec .read .b2 600 6 4 .waiting)).InFlightAt 0 (hostRec .read .b2 600 6 4 .active)) ∧
    (let s : State := { moving (hostRec .write .b2 600 6 4 .waiting) with host := { up.host with writeBuf := [1, 2, 3, 4] } };
      s.InFlightAt 0 (hostRec .write .b2 600 6 4 .active) ∧ s.host.writeBuf[0]? = some 1) ∧
    (let r := chanRec .c1 .write .b2 600 6 4 .active 2
     let s : State := { moving r with chans := (upChan .c1 (depositChan .running 20)).chans };
      s.InFlightAt 0 r ∧ (s.chan .c1).fifo.head? = some 0x1234) ∧
    (let r (l : ByteLane) : Record := { hostRec .byteWrite .b2 7 40 1 .active with byteWrite := some (l, 0x7E) }
     let s (l : ByteLane) (n : Nat) : State := { (moving (r l)).setBank .b2 { laneAt .transferring 7 with elapsed := n } with
        store := Store.write State.reset.store .b2 7 40 ⟨0x12A5, 0b10⟩ };
      (s .high 3).InFlightAt 0 (r .high) ∧ (s .low 3).InFlightAt 0 (r .low) ∧
        ((s .low 3).store.read .b2 7 40).highGood = true ∧ ((s .high 3).store.read .b2 7 40).lowGood = false ∧
        0 < (s .low 0).tWORD ∧ ((s .low 1).tWORD ≤ 1 ∧ 2 < (s .low 2).tWORD + (s .low 2).tRMW) ∧
        (s .low 3).tWORD + (s .low 3).tRMW ≤ 3 ∧
        WordPins (s .low 0) true false none ∧ WordPins (s .low 2) false false none ∧
        WordPins (s .low 3) true true (some (StoreWord.fresh 0x127E)) ∧ WordPins (s .high 3) false false none) ∧
    ∀ i r, ¬up.InFlightAt i r :=
  ⟨in_flight_alone _, ⟨in_flight_alone (hostRec .write .b2 600 6 4 .active), rfl⟩,
    ⟨in_flight_alone (chanRec .c1 .write .b2 600 6 4 .active 2), by decide⟩,
    ⟨⟨rfl, rfl, fun _ _ h => absurd h (Nat.not_lt_zero _), rfl⟩, ⟨rfl, rfl, fun _ _ h => absurd h (Nat.not_lt_zero _), rfl⟩, by decide, by decide,
      by decide, by decide, by decide, by unfold WordPins; decide, by unfold WordPins; decide, by unfold WordPins; decide,
      by unfold WordPins; decide⟩, fun _ _ h => (nomatch h.1)⟩

theorem witness_BusCyclesAndRowsAgree :
    rowOfCycle (.read 0x15) = some .tdataRead ∧ rowOfCycle (.read 0x1E) = none ∧
    (BusPins.mk true true false 0x15 0).rd = true ∧ (BusPins.mk true true true 0x15 0).rd = (BusPins.mk true true true 0x15 0).wr := by
  decide

theorem witness_WordsOfARequestFollowItsOrder :
    (hostRec .read .b0 40 6 4 .waiting).order = .linear ∧
    ({ hostRec .read .b0 40 6 4 .waiting with order := .wrap8 } : Record).order = .wrap8 ∧ 262143 < 262144 := by decide

theorem witness_ResetValuesStand : (0x1F : BitVec 5) ≠ 0x09 ∧ (0x1F : BitVec 5) ≠ 0x1D := by decide

theorem witness_StoreWordsReadBackWithTheirParity :
    ¬(Bank.b1 = Bank.b0 ∧ (5 : Row) = 5 ∧ (255 : Col) = 255) ∧ 15 < 16 ∧ 1 < 2 := by decide

/-- A safe state with a transfer in flight, whose end is the next command. -/
def busy : State := { moving (hostRec .read .b2 600 6 4 .waiting) with pending := [.wordTransferEnd] }

theorem witness_EveryStepKeepsThePartSafe : busy.safe = true ∧ ∃ t, step busy = .next t := ⟨by decide, _, rfl⟩

theorem witness_EveryStepKeepsModesBanksAndQueueInAgreement : busy.control = true ∧ ∃ t, step busy = .next t :=
  ⟨by decide, _, rfl⟩

/-- A full queue at every limit of R73, with a period tick to come. -/
theorem witness_EveryStepKeepsTheQueueLimits :
    let burst (c : Chan) : Record := chanRec c .read .b1 200 0 32 .waiting 2
    let s : State :=
      { up with
        queue := [hostRec .read .b1 4 0 3 .waiting, hostRec .write .b0 10 0 3 .staging, burst .c0, burst .c0, burst .c0, burst .c1,
          burst .c1, burst .c1]
        pending := [.periodTick ⟨.c1, .sender⟩] }
    s.queueLimits = true ∧ s.outstanding .c0 = 3 ∧ s.queueFull = true ∧ ∃ t, step s = .next t :=
  ⟨by decide, by decide, by decide, _, rfl⟩

/-- Every list and count at its limit, with a tick to come. -/
theorem witness_EveryStepKeepsTheListAndCounterLimits :
    let s : State :=
      { upChan .c1 { fetchChan .running with late := 15, slips := 255 } with
        weak := fullWeak
        faults := (List.range 8).map fun k => ⟨.parityRead, .b2, some (BitVec.ofNat 10 k, 4), some .host, 255⟩
        fltLost := 255
        banks := PerBank.same { lane .closed with debt := 15 }
        queue := [{ hostRec .read .b1 4 0 3 .waiting with bypass := 8 }]
        store := Store.write State.reset.store .b2 7 40 ⟨0x12A5, 0b10⟩
        pending := [.tick ⟨.o012, .sender⟩] }
    s.weakLimits = true ∧ s.faultLimits = true ∧ s.debtLimits = true ∧ s.bypassLimits = true ∧ s.channelLimits = true ∧
      s.store.wf = true ∧ ∃ t, step s = .next t :=
  ⟨by decide, by decide, by decide, by decide, by decide, by decide, _, rfl⟩

end Sys2Proof.Tests
end

section
/-! The host transfer commands HOST_READ, HOST_WRITE and HOST_WRITE_BYTE: their shared checks, and O15, O16 and O17. -/

namespace Sys2Proof.Machine

/-! ### Host transfer commands: the checks that the three share (R8, R73, R98) -/

/-- The range check of R8 fails exactly on the transfers that are not in range. -/
theorem State.hostRangeFails_iff (s : State) : s.hostRangeFails = true ↔ ¬s.TransferInRange := by
  unfold State.hostRangeFails State.TransferInRange bankWords
  cases s.regs.horder with
  | none => simp
  | some o => cases o <;> simp <;> grind

/-- QFULL: the queue holds 8 records or more (R73). -/
theorem State.queueFull_iff (s : State) : s.queueFull = true ↔ 8 ≤ s.queue.length := decide_eq_true_iff

/-- A command taken in RUN alone is refused by the mode elsewhere (R173, R175). -/
theorem State.command_of_not_run {s : State} (h : s.inReset = false) (hm : s.mode ≠ .run)
    (check : State → Option Result) (effect : State → State) :
    s.command [.run] .busy check effect = s.refuse (if s.mode = .quiescing then .busy else .mode) := by
  rw [State.command, State.outOfReset_of_not h]
  by_cases hq : s.mode = .quiescing <;> simp [modeTest, hm, hq]

/-- A host transfer command in RUN answers by the first of the checks BUSY, RANGE and FULL that fails, and has its effect when
none does (R98, R187). -/
theorem State.command_hostChecks {s : State} (h : s.inReset = false) (hm : s.mode = .run) (busy rangeFails : State → Bool)
    {inRange : Prop} (hrange : rangeFails s = true ↔ ¬inRange) (effect : State → State) :
    let answer := s.command [.run] .busy
      (fun s => firstFailure [(busy s, .busy), (rangeFails s, .range), (s.queueFull, .full)]) effect
    (busy s = true → answer = s.refuse .busy) ∧
      (busy s = false → ¬inRange → answer = s.refuse .range) ∧
      (busy s = false → inRange → 8 ≤ s.queue.length → answer = s.refuse .full) ∧
      (busy s = false → inRange → s.queue.length < 8 → answer = effect (s.withResult .ok)) := by
  have taken : [Mode.run].contains s.mode = true := by simp [hm]
  rw [State.command_taken h taken]
  refine ⟨fun hb => ?_, fun hb hr => ?_, fun hb hr hq => ?_, fun hb hr hq => ?_⟩
  · simp [firstFailure, hb]
  · simp [firstFailure, hb, hrange, hr]
  · simp [firstFailure, hb, hrange, hr, State.queueFull_iff, hq]
  · simp [firstFailure, hb, hrange, hr, State.queueFull_iff, Nat.not_le.mpr hq, State.withResult]

/-! ### The pending flags of the host, which a choice leaves (R96) -/

/-- HRD_PEND does not depend on the notes of selections. -/
theorem State.hrdPend_eq_bareQueue (s : State) : s.hrdPend = s.bareQueue.any Record.isHostRead := by
  rw [State.bareQueue, List.any_map]; rfl

/-- HWR_PEND does not depend on the notes of selections. -/
theorem State.hwrPend_eq_bareQueue (s : State) : s.hwrPend = s.bareQueue.any Record.isHostWrite := by
  rw [State.bareQueue, List.any_map]; rfl

/-- The choice of a bank leaves HRD_PEND. -/
theorem State.ChoiceOf.hrdPend_eq {s t : State} {b : Bank} (h : s.ChoiceOf t b) : t.hrdPend = s.hrdPend := by
  obtain ⟨⟨_, hqueue, _, _⟩, _, _⟩ := h
  rw [t.hrdPend_eq_bareQueue, hqueue, ← s.hrdPend_eq_bareQueue]

/-- The choice of a bank leaves HWR_PEND. -/
theorem State.ChoiceOf.hwrPend_eq {s t : State} {b : Bank} (h : s.ChoiceOf t b) : t.hwrPend = s.hwrPend := by
  obtain ⟨⟨_, hqueue, _, _⟩, _, _⟩ := h
  rw [t.hwrPend_eq_bareQueue, hqueue, ← s.hwrPend_eq_bareQueue]

/-- HRD_PEND stands while a host read record has joined the queue. -/
theorem State.hrdPend_join (s : State) {r : Record} (h : r.isHostRead = true) : (s.join r).hrdPend = true := by
  simp [State.hrdPend, State.join, h]

/-- HWR_PEND stands while a host write-kind record has joined the queue. -/
theorem State.hwrPend_join (s : State) {r : Record} (h : r.isHostWrite = true) : (s.join r).hwrPend = true := by
  simp [State.hwrPend, State.join, h]

/-! ### The admitted records -/

/-- The record of a host read or write, where HORDER names an order (R70, R97). -/
theorem HostRegs.transferRecord_of_horder {g : HostRegs} {o : Order} (h : g.horder = some o) (k : Kind) (st : RecState) :
    g.transferRecord k st =
      { source := .host, kind := k, bank := g.hbank, row := g.hrow, col := g.hcol, count := g.count, order := o, done := 0
        state := st, urgent := false, ticksLeft := none, bypass := 0, byteWrite := none, status := .good
        selected := none } := by
  simp [HostRegs.transferRecord, h]

/-! ### HOST_READ, HOST_WRITE and HOST_WRITE_BYTE -/

/-- Settles O15: the checks of R98, and the record of R99 behind which the bank chooses. -/
theorem hostReadAdmitsARecord : Obligations.HostReadAdmitsARecord := by
  intro s hr
  refine ⟨fun hm => congrArg Host.Outcome.next (s.command_of_not_run hr hm _ _), fun hm => ?_⟩
  obtain ⟨hbusy, hrange, hfull, hok⟩ := State.command_hostChecks hr hm (fun s => s.hrdPend || !s.host.readBuf.isEmpty)
    State.hostRangeFails s.hostRangeFails_iff fun s => (s.join (s.regs.transferRecord .read .waiting)).reconsider s.regs.hbank
  have busy_iff : (s.hrdPend || !s.host.readBuf.isEmpty) = true ↔ s.hrdPend = true ∨ s.host.readBuf ≠ [] := by simp
  simp only [busy_iff, ← Bool.not_eq_true] at hbusy hrange hfull hok
  refine ⟨fun hb => congrArg Host.Outcome.next (hbusy hb), fun hb hi => congrArg Host.Outcome.next (hrange hb hi),
    fun hb hi hq => congrArg Host.Outcome.next (hfull hb hi hq), fun hb hi hq o ho => ?_⟩
  have record := HostRegs.transferRecord_of_horder ho .read .waiting
  have choice := ((s.withResult .ok).join (s.regs.transferRecord .read .waiting)).reconsider_choiceOf s.regs.hbank
  have pending := choice.hrdPend_eq.trans (State.hrdPend_join _ rfl)
  rw [record] at choice pending
  refine ⟨congrArg Host.Outcome.next ((hok hb hi hq).trans ?_), pending, choice⟩
  rw [← record]; rfl

/-- Settles O16: the checks of R98, and the STAGING record with the write buffer opened (R104). -/
theorem hostWriteOpensTheWriteBuffer : Obligations.HostWriteOpensTheWriteBuffer := by
  intro s hr
  refine ⟨fun hm => congrArg Host.Outcome.next (s.command_of_not_run hr hm _ _), fun hm => ?_⟩
  obtain ⟨hbusy, hrange, hfull, hok⟩ := State.command_hostChecks hr hm State.hwrPend
    State.hostRangeFails s.hostRangeFails_iff fun s =>
      { s.join (s.regs.transferRecord .write .staging) with
        host := { s.host with writeBuf := [], writeOpen := some s.regs.count, heldLow := none } }
  refine ⟨fun hb => congrArg Host.Outcome.next (hbusy hb), fun hb hi => congrArg Host.Outcome.next (hrange hb hi),
    fun hb hi hq => congrArg Host.Outcome.next (hfull hb hi hq),
    fun hb hi hq o ho => congrArg Host.Outcome.next ((hok hb hi hq).trans ?_)⟩
  rw [← HostRegs.transferRecord_of_horder ho .write .staging]; rfl

/-- Settles O17: the checks of R98 with R7's range, and the record of R108 behind which the bank chooses. -/
theorem hostWriteByteAdmitsARecord : Obligations.HostWriteByteAdmitsARecord := by
  intro s hr
  refine ⟨fun hm => congrArg Host.Outcome.next (s.command_of_not_run hr hm _ _), fun hm => ?_⟩
  obtain ⟨hbusy, hrange, hfull, hok⟩ := State.command_hostChecks hr hm State.hwrPend
    (fun s => !s.present s.regs.hbank) (inRange := s.present s.regs.hbank = true) (by simp)
    fun s => (s.join s.regs.byteRecord).reconsider s.regs.hbank
  have choice := ((s.withResult .ok).join s.regs.byteRecord).reconsider_choiceOf s.regs.hbank
  exact ⟨fun hb => congrArg Host.Outcome.next (hbusy hb), fun hb hp => congrArg Host.Outcome.next (hrange hb (by simp [hp])),
    fun hb hp hq => congrArg Host.Outcome.next (hfull hb hp hq), fun hb hp hq =>
      ⟨congrArg Host.Outcome.next (hok hb hp hq), choice.hwrPend_eq.trans (State.hwrPend_join _ rfl), choice⟩⟩

end Sys2Proof.Machine
end

section
/-! What holds a record back, and the words of a request: O48 and O52. -/

namespace Sys2Proof.Machine

/-! ### Eligibility (R4, R78) -/

/-- An older record leaves a younger one free when their sources differ and, where they share a word, both only read. -/
theorem Record.holdsBack_eq_false_iff (p r : Record) :
    p.holdsBack r = false ↔ p.source ≠ r.source ∧ (p.overlaps r = true → p.kind = .read ∧ r.kind = .read) := by
  simp only [Record.holdsBack, Bool.or_eq_false_iff, beq_eq_false_iff_ne, Bool.and_eq_false_imp, bne_eq_false_iff_eq]

/-- A record is eligible when its state allows it and no older record holds it back. -/
theorem eligible_iff (older : List Record) (r : Record) :
    eligible older r = true ↔
      (r.state = .waiting ∨ r.state = .resumable) ∧ ∀ p ∈ older, p.holdsBack r = false := by
  simp [eligible]

/-- Settles O48, by what holds a record back and what two records share. -/
theorem eligibilityFollowsOrderAndHazards : Obligations.EligibilityFollowsOrderAndHazards := by
  intro older r
  simp only [eligible_iff, Record.holdsBack_eq_false_iff, Record.overlaps_iff]

/-! ### Offsets, rows and columns (R2) -/

/-- The row of an offset written as a row and a column. -/
theorem rowOfOffset_add (row : Row) {c : Nat} (h : c < 256) : rowOfOffset (row.toNat * 256 + c) = row := by
  apply BitVec.eq_of_toNat_eq
  rw [rowOfOffset, BitVec.toNat_ofNat]
  omega

/-- The column of an offset written as a row and a column. -/
theorem colOfOffset_add (n : Nat) {c : Nat} (h : c < 256) : (colOfOffset (n * 256 + c)).toNat = c := by
  rw [colOfOffset, BitVec.toNat_ofNat]
  omega

/-- The row and column of an offset inside a bank give the offset back. -/
theorem offsetOf_rowOfOffset_colOfOffset {o : Nat} (h : o < bankWords) : offsetOf (rowOfOffset o) (colOfOffset o) = o := by
  rw [bankWords] at h
  rw [offsetOf, rowOfOffset, colOfOffset, BitVec.toNat_ofNat, BitVec.toNat_ofNat]
  omega

/-! ### Wrap groups (R6) -/

/-- Going round in a group: the group of the start column, at the place that the columns counted on leave. -/
theorem wrapOffset_eq (row : Row) (col : Col) (g k : Nat) :
    wrapOffset row col g k = row.toNat * 256 + (g * (col.toNat / g) + (col.toNat + k) % g) := by
  have place : col.toNat - col.toNat / g * g = col.toNat % g := by rw [Nat.mul_comm, Nat.mod_eq_sub_mul_div]
  rw [wrapOffset, place, Nat.mod_add_mod, Nat.mul_comm (col.toNat / g)]

/-- A word of a wrap group that divides the row stays in the row and in the group of the start column, at its place in the
group. -/
theorem wrapOffset_place (row : Row) (col : Col) {g : Nat} (k : Nat) (hg : 0 < g) (hdvd : g ∣ 256) :
    rowOfOffset (wrapOffset row col g k) = row ∧ (colOfOffset (wrapOffset row col g k)).toNat / g = col.toNat / g ∧
      (colOfOffset (wrapOffset row col g k)).toNat % g = (col.toNat + k) % g := by
  have hplace : (col.toNat + k) % g < g := Nat.mod_lt _ hg
  have hcol : g * (col.toNat / g) + (col.toNat + k) % g < 256 := by
    obtain ⟨n, hn⟩ := hdvd
    have hgroup : col.toNat / g < n := Nat.div_lt_of_lt_mul (hn ▸ col.isLt)
    calc g * (col.toNat / g) + (col.toNat + k) % g < g * (col.toNat / g) + g := by omega
      _ = g * (col.toNat / g + 1) := rfl
      _ ≤ g * n := Nat.mul_le_mul_left g hgroup
      _ = 256 := hn.symm
  rw [wrapOffset_eq, rowOfOffset_add row hcol, colOfOffset_add _ hcol]
  refine ⟨rfl, ?_, ?_⟩
  · rw [Nat.mul_add_div hg, Nat.div_eq_of_lt hplace, Nat.add_zero]
  · rw [Nat.mul_add_mod, Nat.mod_mod]

/-- Settles O52: the linear offset, the two wrap groups, the next word, and offsets as rows and columns. -/
theorem wordsOfARequestFollowItsOrder : Obligations.WordsOfARequestFollowItsOrder := by
  intro r k
  refine ⟨fun h => ?_, fun g hg => ?_, rfl, rfl, fun o ho => offsetOf_rowOfOffset_colOfOffset ho⟩
  · rw [Record.wordOffset, h]; rfl
  · rcases hg with ⟨h, rfl⟩ | ⟨h, rfl⟩
    · have word : r.wordOffset k = wrapOffset r.row r.col 4 k := by rw [Record.wordOffset, h]
      exact word ▸ wrapOffset_place r.row r.col k (by decide) (by decide)
    · have word : r.wordOffset k = wrapOffset r.row r.col 8 k := by rw [Record.wordOffset, h]
      exact word ▸ wrapOffset_place r.row r.col k (by decide) (by decide)

end Sys2Proof.Machine
end

section
/-! The parity of the store words: O53. -/

namespace Sys2Proof.Machine

/-! ### Parity (R10 to R12) -/

/-- The ones of a byte of a word, counted on the word. -/
theorem ones_extractLsb' (d : Data) (first : Nat) :
    ones (d.extractLsb' first 8) = (List.range 8).countP fun k => d.getLsbD (first + k) := by
  refine List.countP_congr fun k hk => ?_
  rw [BitVec.getLsbD_extractLsb', decide_eq_true (List.mem_range.mp hk), Bool.true_and]

/-- One of `n` flags changed makes the number of set flags odd where it was even, and even where it was odd. -/
theorem countP_range_change {f g : Nat → Bool} {n k : Nat} (hk : k < n) (hchange : g k = !f k)
    (hkeep : ∀ j, j ≠ k → g j = f j) : ((List.range n).countP g + (List.range n).countP f) % 2 = 1 := by
  induction n with
  | zero => omega
  | succ n ih =>
    simp only [List.range_succ, List.countP_append, List.countP_singleton]
    by_cases hlast : k = n
    · subst hlast
      have hsame : (List.range k).countP g = (List.range k).countP f :=
        List.countP_congr fun j hj => by rw [hkeep j (List.mem_range.mp hj).ne]
      rw [hsame, hchange]
      cases f k <;> simp <;> omega
    · have := ih (by omega)
      rw [hkeep n (Ne.symm hlast)]
      omega

/-- A byte with one bit changed has ones of the other parity. -/
theorem ones_xor_twoPow (v : Byte) {k : Nat} (hk : k < 8) : (ones (v ^^^ BitVec.twoPow 8 k) + ones v) % 2 = 1 := by
  refine countP_range_change hk ?_ fun j hj => ?_
  · simp [hk]
  · simp [hj.symm]

/-- A byte is good against one parity bit and bad against the other. -/
theorem byteGood_not (v : Byte) (p : Bool) : byteGood v (!p) = !byteGood v p := by
  have := Nat.mod_two_eq_zero_or_one (ones v)
  cases p <;> rcases this with h | h <;> simp [byteGood, Nat.add_mod, h]

/-- A good byte with one bit changed is bad, and a bad one is good. -/
theorem byteGood_xor_twoPow (v : Byte) (p : Bool) {k : Nat} (hk : k < 8) :
    byteGood (v ^^^ BitVec.twoPow 8 k) p = !byteGood v p := by
  have := ones_xor_twoPow v hk
  rw [Bool.eq_not_iff, byteGood, byteGood]
  simp only [ne_eq, beq_eq_beq]
  omega

/-- A bit of the low byte changed in a word. -/
theorem lowByte_xor_twoPow (d : Data) {k : Nat} (hk : k < 8) :
    lowByte (d ^^^ BitVec.twoPow 16 k) = lowByte d ^^^ BitVec.twoPow 8 k := by
  ext i hi
  simp [lowByte, eq_comm, show k < 16 by omega]

/-- A bit of the high byte changed in a word. -/
theorem highByte_xor_twoPow (d : Data) {k : Nat} (hk : k < 8) :
    highByte (d ^^^ BitVec.twoPow 16 (8 + k)) = highByte d ^^^ BitVec.twoPow 8 k := by
  ext i hi
  simp [highByte, eq_comm, show 8 + k < 16 by omega]

/-! ### Store words -/

/-- A byte of a word is good exactly when its ones, counted on the word, and its parity bit are odd together (R11, R12). -/
theorem byteGood_extractLsb'_iff (d : Data) (first : Nat) (p : Bool) :
    byteGood (d.extractLsb' first 8) p = true ↔
      ((List.range 8).countP (fun k => d.getLsbD (first + k)) + p.toNat) % 2 = 1 := by
  rw [byteGood, ones_extractLsb', beq_iff_eq]

/-- A word is bad when either byte is (R12). -/
theorem StoreWord.bad_iff (w : StoreWord) : w.bad = true ↔ w.lowGood = false ∨ w.highGood = false := by
  rw [StoreWord.bad, Bool.not_eq_true', Bool.and_eq_false_iff]

/-- SP0 of a word with generated parity. -/
theorem StoreWord.fresh_parity_low (d : Data) : (StoreWord.fresh d).parity.getLsbD 0 = parityOf (lowByte d) := by
  simp only [StoreWord.fresh, BitVec.getLsbD_append]
  simp

/-- SP1 of a word with generated parity. -/
theorem StoreWord.fresh_parity_high (d : Data) : (StoreWord.fresh d).parity.getLsbD 1 = parityOf (highByte d) := by
  simp only [StoreWord.fresh, BitVec.getLsbD_append]
  simp

/-- The low byte of a word with generated parity is good. -/
theorem StoreWord.fresh_lowGood (d : Data) : (StoreWord.fresh d).lowGood = true := by
  rw [StoreWord.lowGood, StoreWord.fresh_parity_low]
  exact byteGood_parityOf _

/-- The high byte of a word with generated parity is good. -/
theorem StoreWord.fresh_highGood (d : Data) : (StoreWord.fresh d).highGood = true := by
  rw [StoreWord.highGood, StoreWord.fresh_parity_high]
  exact byteGood_parityOf _

/-- A word with generated parity is good. -/
theorem StoreWord.fresh_bad (d : Data) : (StoreWord.fresh d).bad = false := by
  rw [StoreWord.bad, StoreWord.fresh_lowGood, StoreWord.fresh_highGood]; rfl

/-- A word with generated parity is bad once a data bit is changed. -/
theorem StoreWord.fresh_data_xor_bad (d : Data) {k : Nat} (hk : k < 16) :
    ({ StoreWord.fresh d with data := d ^^^ BitVec.twoPow 16 k } : StoreWord).bad = true := by
  rw [StoreWord.bad_iff]
  by_cases hlow : k < 8
  · left
    rw [StoreWord.lowGood, lowByte_xor_twoPow d hlow, byteGood_xor_twoPow _ _ hlow]
    exact congrArg not (StoreWord.fresh_lowGood d)
  · right
    obtain ⟨j, rfl⟩ := Nat.exists_eq_add_of_le (Nat.le_of_not_lt hlow)
    rw [StoreWord.highGood, highByte_xor_twoPow d (by omega), byteGood_xor_twoPow _ _ (by omega)]
    exact congrArg not (StoreWord.fresh_highGood d)

/-- A word with generated parity is bad once a parity bit is changed. -/
theorem StoreWord.fresh_parity_xor_bad (d : Data) {k : Nat} (hk : k < 2) :
    ({ StoreWord.fresh d with parity := (StoreWord.fresh d).parity ^^^ BitVec.twoPow 2 k } : StoreWord).bad = true := by
  have flipped : ((StoreWord.fresh d).parity ^^^ BitVec.twoPow 2 k).getLsbD k = !(StoreWord.fresh d).parity.getLsbD k := by
    simp [hk]
  rw [StoreWord.bad_iff]
  obtain rfl | rfl : k = 0 ∨ k = 1 := by omega
  · left
    rw [StoreWord.lowGood, flipped, byteGood_not]
    exact congrArg not (StoreWord.fresh_lowGood d)
  · right
    rw [StoreWord.highGood, flipped, byteGood_not]
    exact congrArg not (StoreWord.fresh_highGood d)

/-- Settles O53: reads after writes, the parity of each byte, and every single changed bit. -/
theorem storeWordsReadBackWithTheirParity : Obligations.StoreWordsReadBackWithTheirParity := by
  refine ⟨fun st b row col w => ⟨st.read_write_same b row col w,
      fun b' row' col' h => st.read_write_other w (by simpa using h)⟩,
    fun w => ⟨byteGood_extractLsb'_iff .., byteGood_extractLsb'_iff .., w.bad_iff⟩, fun d => ?_⟩
  exact ⟨rfl, StoreWord.fresh_bad d, (byteGood_extractLsb'_iff ..).mp (StoreWord.fresh_lowGood d),
    (byteGood_extractLsb'_iff ..).mp (StoreWord.fresh_highGood d), fun k => StoreWord.fresh_data_xor_bad d,
    fun k => StoreWord.fresh_parity_xor_bad d⟩

end Sys2Proof.Machine
end

section
/-! The status registers and the store pins: O55. -/

namespace Sys2Proof.Machine

/-! ### Bytes made of fields -/

/-- A flag at a place counts as its power of two. -/
theorem bitAt_eq (k : Nat) (v : Bool) : bitAt k v = 2 ^ k * v.toNat := by
  cases v <;> simp [bitAt]

/-- A number below 256 is the byte's value. -/
theorem byte_toNat {n : Nat} (h : n < 256) : (byte n).toNat = n := by rw [byte, BitVec.toNat_ofNat, Nat.mod_eq_of_lt h]

/-- A bit of a byte shows a flag when the number's digit at its place is the flag. -/
theorem byte_getLsbD {n i : Nat} {v : Bool} (hi : i < 8) (h : n / 2 ^ i % 2 = v.toNat) : (byte n).getLsbD i = v := by
  rw [byte, BitVec.getLsbD_ofNat, decide_eq_true hi, Bool.true_and, Nat.testBit_eq_decide_div_mod_eq, h]
  cases v <;> rfl

/-- A field of a byte shows the number's digits at its place. -/
theorem byte_field {n i w : Nat} (h : i + w ≤ 8) : ((byte n).extractLsb' i w).toNat = n / 2 ^ i % 2 ^ w := by
  rw [BitVec.extractLsb'_toNat, byte, BitVec.toNat_ofNat, Nat.shiftRight_eq_div_pow]
  have byteSize : 2 ^ 8 = 2 ^ i * 2 ^ (8 - i) := by rw [← Nat.pow_add]; congr 1; omega
  rw [byteSize, Nat.mod_mul_right_div_self, Nat.mod_mod_of_dvd _ (Nat.pow_dvd_pow 2 (by omega))]

/-- The mode codes fill the mode field at most (R192). -/
theorem Mode.code_le (m : Mode) : m.code ≤ 6 := by cases m <;> decide

/-- The channel state codes fill their field at most (R192). -/
theorem ChanState.code_le (st : ChanState) : st.code ≤ 3 := by cases st <;> decide

/-! ### Status registers (R192) -/

/-- STATUS shows the mode, the pending flags, RDBAD and QFULL. -/
theorem State.statusByte_shows (s : State) :
    (s.statusByte.extractLsb' 0 3).toNat = s.mode.code ∧ s.statusByte.getLsbD 3 = s.hrdPend ∧
      s.statusByte.getLsbD 4 = s.hwrPend ∧ s.statusByte.getLsbD 5 = s.host.rdbad ∧
      s.statusByte.getLsbD 6 = s.queueFull ∧ s.statusByte.getLsbD 7 = false := by
  have hmode := s.mode.code_le
  have hread := s.hrdPend.toNat_le
  have hwrite := s.hwrPend.toNat_le
  have hbad := s.host.rdbad.toNat_le
  have hfull := s.queueFull.toNat_le
  simp only [State.statusByte, bitAt_eq]
  refine ⟨?mode, byte_getLsbD (by decide) (by omega), byte_getLsbD (by decide) (by omega),
    byte_getLsbD (by decide) (by omega), byte_getLsbD (by decide) (by omega), byte_getLsbD (by decide) ?top⟩
  case mode => rw [byte_field (by decide)]; omega
  case top => rw [Bool.toNat_false]; omega

/-- CHnST shows the channel's state and its outstanding count. -/
theorem State.chanStatusByte_shows (s : State) (c : Chan) (h : s.outstanding c ≤ 3) :
    ((s.chanStatusByte c).extractLsb' 0 2).toNat = (s.chan c).state.code ∧
      ((s.chanStatusByte c).extractLsb' 2 2).toNat = s.outstanding c ∧
      ((s.chanStatusByte c).extractLsb' 4 4).toNat = 0 := by
  have hcode := (s.chan c).state.code_le
  simp only [State.chanStatusByte, byte_field (show 0 + 2 ≤ 8 by decide), byte_field (show 2 + 2 ≤ 8 by decide),
    byte_field (show 4 + 4 ≤ 8 by decide)]
  omega

/-- BANKST shows the lost and paused flags of every bank. -/
theorem State.bankStatusByte_shows (s : State) (b : Bank) :
    s.bankStatusByte.getLsbD b.num = (s.bank b).lost ∧ s.bankStatusByte.getLsbD (4 + b.num) = (s.bank b).paused := by
  have l0 := (s.bank .b0).lost.toNat_le; have p0 := (s.bank .b0).paused.toNat_le
  have l1 := (s.bank .b1).lost.toNat_le; have p1 := (s.bank .b1).paused.toNat_le
  have l2 := (s.bank .b2).lost.toNat_le; have p2 := (s.bank .b2).paused.toNat_le
  have l3 := (s.bank .b3).lost.toNat_le; have p3 := (s.bank .b3).paused.toNat_le
  cases b
  all_goals
    simp only [State.bankStatusByte, bitAt_eq, Bank.all, List.map_cons, List.map_nil, List.sum_cons, List.sum_nil, Bank.num]
    exact ⟨byte_getLsbD (by decide) (by omega), byte_getLsbD (by decide) (by omega)⟩

/-- CAUSE shows the reset cause flags. -/
theorem State.causeByte_shows (s : State) :
    s.causeByte.getLsbD 0 = s.por ∧ s.causeByte.getLsbD 1 = s.pin ∧ (s.causeByte.extractLsb' 2 6).toNat = 0 := by
  have hpor := s.por.toNat_le
  have hpin := s.pin.toNat_le
  simp only [State.causeByte, bitAt_eq]
  refine ⟨byte_getLsbD (by decide) (by omega), byte_getLsbD (by decide) (by omega), ?_⟩
  rw [byte_field (by decide)]
  omega

/-! ### Store pins (R3, R17 to R21, R28, R35, R36) -/

/-- A bank is in self-retention while HELD, to the start of the wake. -/
theorem State.selfRetention_iff (s : State) (b : Bank) :
    s.selfRetention b = true ↔ (s.bank b).state = .held ∧ s.mode ≠ .waking := by
  simp [State.selfRetention]

/-- The word operation in progress is that of the record in flight, in the part that its clock gives. -/
theorem State.movingPart_eq {s : State} {i : Nat} {r : Record} (h : s.InFlightAt i r) :
    s.movingPart = some (r, s.wordPart r (s.bank r.bank).elapsed) := by
  have hmoving : s.moving = some r := by
    have hfound := State.inFlight_eq h
    obtain ⟨_, _, _, hbank⟩ := h
    simp [State.moving, hfound, hbank]
  simp [State.movingPart, hmoving]

/-- Without a record in flight no word operation is in progress. -/
theorem State.movingPart_none {s : State} (h : ∀ i r, ¬s.InFlightAt i r) : s.movingPart = none := by
  have hmoving : s.moving = none := by
    rcases State.inFlight_none h with hnone | ⟨i, r, hsome, hbank⟩
    · simp [State.moving, hnone]
    · simp [State.moving, hsome, hbank]
  simp [State.movingPart, hmoving]

/-- No word operation: no strobe, and nothing driven. -/
theorem State.wordPins_of_none {s : State} (h : s.movingPart = none) : WordPins s false false none := by
  simp [WordPins, State.columnStrobe, State.writeStrobe, State.storeData, h]

/-- The read of a word: CST# alone. -/
theorem State.wordPins_of_read {s : State} {r : Record} (h : s.movingPart = some (r, .read)) :
    WordPins s true false none := by
  simp [WordPins, State.columnStrobe, State.writeStrobe, State.storeData, h]

/-- The merge of an RMW word: no strobe, and nothing driven (entry 37). -/
theorem State.wordPins_of_merge {s : State} {r : Record} (h : s.movingPart = some (r, .merge)) :
    WordPins s false false none := by
  simp [WordPins, State.columnStrobe, State.writeStrobe, State.storeData, h]

/-- The write part of a bad word: no strobe, and nothing driven (R36; entry 37). -/
theorem State.wordPins_of_badWrite {s : State} {r : Record} (h : s.movingPart = some (r, .write))
    (hbad : s.wordBad r = true) : WordPins s false false none := by
  simp [WordPins, State.columnStrobe, State.writeStrobe, State.storeData, h, hbad]

/-- The write of a word from a buffer: both strobes, and the word with its generated parity. -/
theorem State.wordPins_of_write {s : State} {r : Record} (h : s.movingPart = some (r, .write)) (hkind : r.kind = .write) :
    WordPins s true true (some (StoreWord.fresh (s.writeWord r))) := by
  simp [WordPins, State.columnStrobe, State.writeStrobe, State.storeData, State.wordBad, h, hkind]

/-- The write part of an RMW word that merges: both strobes, and the merged word with its generated parity. -/
theorem State.wordPins_of_mergedWrite {s : State} {r : Record} {lane : ByteLane} {v : Byte}
    (h : s.movingPart = some (r, .write)) (hkind : r.kind = .byteWrite) (hbyte : r.byteWrite = some (lane, v))
    (hgood : s.wordBad r = false) :
    WordPins s true true (some (StoreWord.fresh (mergeByte (s.wordAt r).data lane v))) := by
  simp [WordPins, State.columnStrobe, State.writeStrobe, State.storeData, h, hkind, hbyte, hgood]

/-- A byte write ends on a bad word exactly when the byte that it leaves is bad. -/
theorem State.wordBad_byteWrite {s : State} {r : Record} {lane : ByteLane} {v : Byte} (hkind : r.kind = .byteWrite)
    (hbyte : r.byteWrite = some (lane, v)) : s.wordBad r = !(s.wordAt r).untouchedGood lane := by
  simp [State.wordBad, hkind, hbyte]

/-- The word that a write takes from its buffer, where the buffer holds one. -/
theorem State.writeWord_eq {s : State} {r : Record} {d : Data}
    (h : (match r.source with
      | .host => s.host.writeBuf[r.done]?
      | .chan c => (s.chan c).fifo.head?) = some d) : s.writeWord r = d := by
  unfold State.writeWord
  split at h <;> simp_all

/-- A column on MA: MA[9:8] low. -/
theorem setWidth_col (col : Col) : col.setWidth 10 = (0 : BitVec 2) ++ col := by
  simp [BitVec.setWidth_eq_append]

/-- MA carries the column of the word in flight. -/
theorem State.addressPins_inFlight {s : State} {i : Nat} {r : Record} (h : s.InFlightAt i r) :
    s.addressPins r.bank = some ((0 : BitVec 2) ++ r.nextCol) := by
  have hfound := State.inFlight_eq h
  obtain ⟨_, _, _, hbank⟩ := h
  simp [State.addressPins, hbank, hfound, setWidth_col]

/-- The store pins through a byte write: its read, its merge, and its write part with and without a merge (R35, R36). -/
theorem State.wordPins_byteWrite {s : State} {i : Nat} {r : Record} {lane : ByteLane} {v : Byte} (h : s.InFlightAt i r)
    (hkind : r.kind = .byteWrite) (hbyte : r.byteWrite = some (lane, v)) :
    let clock := (s.bank r.bank).elapsed
    (clock < s.tWORD → WordPins s true false none) ∧
      (s.tWORD ≤ clock → clock < s.tWORD + s.tRMW → WordPins s false false none) ∧
      (s.tWORD + s.tRMW ≤ clock → (s.wordAt r).untouchedGood lane = true →
        WordPins s true true (some (StoreWord.fresh (mergeByte (s.wordAt r).data lane v)))) ∧
      (s.tWORD + s.tRMW ≤ clock → (s.wordAt r).untouchedGood lane = false → WordPins s false false none) := by
  have hpart := State.movingPart_eq h
  have hbad := State.wordBad_byteWrite (s := s) hkind hbyte
  have hwrite (hc : s.tWORD + s.tRMW ≤ (s.bank r.bank).elapsed) : s.movingPart = some (r, .write) := by
    rw [hpart, State.wordPart, hkind, if_neg (by omega), if_neg (by omega)]
  refine ⟨fun hc => State.wordPins_of_read (r := r) ?_, fun hc hc' => State.wordPins_of_merge (r := r) ?_,
    fun hc hgood => State.wordPins_of_mergedWrite (hwrite hc) hkind hbyte (by rw [hbad, hgood]; rfl),
    fun hc hgood => State.wordPins_of_badWrite (hwrite hc) (by rw [hbad, hgood]; rfl)⟩
  · rw [hpart, State.wordPart, hkind, if_pos hc]
  · rw [hpart, State.wordPart, hkind, if_neg (by omega), if_pos hc']

/-- Settles O55: each register by its layout, each bank's pins by its state, and the pins of the word in flight by its part. -/
theorem statusRegistersShowTheState : Obligations.StatusRegistersShowTheState := by
  intro s
  obtain ⟨hmode, hread, hwrite, hbad, hfull, htop⟩ := s.statusByte_shows
  refine ⟨hmode, hread, hwrite, hbad, ?full, htop, ?channels, s.bankStatusByte_shows, s.causeByte_shows, byte_toNat,
    byte_toNat, byte_toNat, byte_toNat, byte_toNat, ?result, fun b => ⟨s.selfRetention_iff b, ?bankPins⟩,
    fun i r h => ?wordPins, fun h => State.wordPins_of_none (State.movingPart_none h)⟩
  case full => exact hfull ▸ s.queueFull_iff
  case channels =>
    intro c hc
    cases c <;> exact s.chanStatusByte_shows _ hc
  case result =>
    show byte s.regs.cmd.code = resultCode s.regs.cmd
    cases s.regs.cmd <;> rfl
  case bankPins => cases hstate : (s.bank b).state <;> simp [State.rowStrobe, State.addressPins, hstate]
  case wordPins =>
    have hpart := State.movingPart_eq h
    refine ⟨State.addressPins_inFlight h, fun hkind => State.wordPins_of_read (r := r) ?_, fun hkind d hd => ?_,
      fun hkind lane v hbyte => ?_⟩
    · rw [hpart, State.wordPart, hkind]
    · rw [← State.writeWord_eq hd]
      exact State.wordPins_of_write (by rw [hpart, State.wordPart, hkind]) hkind
    · cases lane <;> exact State.wordPins_byteWrite h hkind hbyte

end Sys2Proof.Machine
end

section
/-! The candidate of a bank by the lines of R82. -/

namespace Sys2Proof.Machine

/-- The search of one line of R82. -/
def State.search (s : State) (b : Bank) (p : Record → Bool) : Option Nat :=
  oldestSuch (fun older r => eligible older r && r.bank == b && p r) [] s.queue

/-- The candidate by its four searches, each made where those before it find nothing. -/
theorem State.candidate_eq (s : State) (b : Bank) :
    s.candidate b =
      match s.search b (·.urgent) with
      | some i => some (.urgentLine, i)
      | none =>
        match s.search b (·.bypass == 8) with
        | some i => some (.bypassLine, i)
        | none =>
          match s.search b fun r => (s.bank b).state == .rowOpen && some r.nextRow == (s.bank b).line.openRow with
          | some i => some (.openRowLine, i)
          | none => (s.search b fun _ => true).map fun i => (.oldestLine, i) := rfl

/-- A search finds the oldest choosable record with a property that its test decides. -/
theorem State.search_some_iff (s : State) (b : Bank) {p : Record → Bool} {q : Record → Prop} (hp : ∀ r, p r = true ↔ q r) (i : Nat) :
    s.search b p = some i ↔ s.OldestChoosable b q i := by
  rw [← funext fun r => propext (hp r)]
  exact s.search_iff b p i

/-- A search finds nothing where no record is choosable with the property. -/
theorem State.search_none_iff (s : State) (b : Bank) {p : Record → Bool} {q : Record → Prop} (hp : ∀ r, p r = true ↔ q r) :
    s.search b p = none ↔ ∀ i, ¬s.Choosable b q i := by
  rw [← funext fun r => propext (hp r)]
  exact s.search_none b p

/-- The candidate is what the lines of R82 name. -/
theorem State.candidate_iff (s : State) (b : Bank) (line : ChoiceLine) (i : Nat) :
    s.candidate b = some (line, i) ↔ s.CandidateBy b line i := by
  have bypassed : ∀ r : Record, (r.bypass == 8) = true ↔ r.bypass = 8 := fun r => beq_iff_eq
  have any : ∀ r : Record, true = true ↔ True := fun r => by simp
  rw [State.candidate_eq]
  unfold State.CandidateBy
  simp only [← s.search_some_iff b (fun _ => Iff.rfl), ← s.search_none_iff b (fun _ => Iff.rfl),
    ← s.search_some_iff b bypassed, ← s.search_none_iff b bypassed, ← s.search_some_iff b (s.inOpenRow_iff b),
    ← s.search_none_iff b (s.inOpenRow_iff b), ← s.search_some_iff b any]
  cases s.search b (·.urgent) with
  | some k => cases line <;> simp
  | none =>
    cases s.search b (·.bypass == 8) with
    | some k => cases line <;> simp
    | none =>
      cases s.search b fun r => (s.bank b).state == .rowOpen && some r.nextRow == (s.bank b).line.openRow with
      | some k => cases line <;> simp
      | none => cases line <;> simp

/-- A bank has no candidate where no record is choosable for it. -/
theorem State.candidate_none_iff (s : State) (b : Bank) : s.candidate b = none ↔ ∀ i, ¬s.Choosable b (fun _ => True) i := by
  have any : ∀ r : Record, true = true ↔ True := fun r => by simp
  have wider {q : Record → Prop} (h : ∀ i, ¬s.Choosable b (fun _ => True) i) (i : Nat) : ¬s.Choosable b q i :=
    fun ⟨r, hr, hb, he, _⟩ => h i ⟨r, hr, hb, he, trivial⟩
  rw [State.candidate_eq, ← s.search_none_iff b any]
  constructor
  · intro h
    split at h
    · cases h
    · split at h
      · cases h
      · split at h
        · cases h
        · exact Option.map_eq_none_iff.mp h
  · intro h
    have none_of {p : Record → Bool} : s.search b p = none :=
      (s.search_none_iff b fun _ => Iff.rfl).mpr (wider ((s.search_none_iff b any).mp h))
    simp only [none_of, Option.map_none]

/-- The candidate of a bank is an eligible record of it. -/
theorem State.candidate_choosable {s : State} {b : Bank} {line : ChoiceLine} {i : Nat} (h : s.candidate b = some (line, i)) :
    s.Choosable b (fun _ => True) i := by
  have weaken {q : Record → Prop} (hq : s.OldestChoosable b q i) : s.Choosable b (fun _ => True) i := by
    obtain ⟨⟨r, hr, hb, he, _⟩, _⟩ := hq
    exact ⟨r, hr, hb, he, trivial⟩
  have named := (s.candidate_iff b line i).mp h
  cases line with
  | urgentLine => exact weaken named
  | bypassLine => exact weaken named.2
  | openRowLine => exact weaken named.2.2
  | oldestLine => exact weaken named.2.2.2

end Sys2Proof.Machine
end

section
/-! What a step can do, said once: the kinds of change that every step is a chain of. -/

namespace Sys2Proof.Machine

/-! ### The kinds of change -/

/-- The items that the laws of control, records, buffers and FIFOs speak of; every other item is at its reset value. -/
def State.core (s : State) : State :=
  { State.reset with
    mode := s.mode, prechargeAll := s.prechargeAll, heldPin := s.heldPin, heldPor := s.heldPor, timing := s.timing
    banks := s.banks, queue := s.queue, host := s.host, chans := s.chans, strobe := s.strobe }

/-- The passages between bank states that hold no row (R13). -/
inductive BankState.Passes (m : Mode) : BankState → BankState → Prop
  | activates (row : Row) : m ≠ .warming → Passes m .closed (.activating row)
  | refreshes (k : RefreshKind) (row : Row) : m ≠ .warming → Passes m .closed (.refreshing k row)
  | refreshed (k : RefreshKind) (row : Row) : Passes m (.refreshing k row) .closed
  | holds : m = .holdEntry → Passes m .closed .held
  | warms : m = .warming → Passes m .cold .warming
  | warmsOn : Passes m .warming .warming
  | warmed : Passes m .warming .closed

/-- What a change of the lanes does to one lane in a mode: its counters and flags move, its state passes on without a row, or its row
opens or closes (R13, R15 to R19, R23, R25, R40, R49 to R51). -/
inductive BankLane.Moves (m : Mode) (l : BankLane) : BankLane → Prop
  | counts (l' : BankLane) (state : l'.state = l.state) (openRow : l'.line.openRow = l.line.openRow)
      (openPage : l'.line.openPage = l.line.openPage)
      (stopped : l.state.holdsRow = true ∨ l'.line.expired = l.line.expired ∧ l'.line.timer.isNone = l.line.timer.isNone)
      (debt : l.debt ≤ 15 → l'.debt ≤ 15) (paused : l'.paused = l.paused ∨ m = .run) : Moves m l l'
  | passes (l' : BankLane) (state : l.state.Passes m l'.state) (line : l'.line = l.line) (debt : l'.debt ≤ l.debt)
      (paused : l'.paused = l.paused) : Moves m l l'
  | opens (row : Row) (state : l.state = .activating row) :
      Moves m l { l.enter .rowOpen with line := { l.line with openRow := some row, expired := false, timer := some 0 } }
  | closes (state : l.state = .precharging) :
      Moves m l { l.enter .closed with line := { l.line with openRow := none, expired := false, timer := none } }

/-- What a change of the channels does to one channel: its counters, lane pins and request move, and it may stop (R117, R119, R123 to
R126, R129 to R131, R142). -/
structure Channel.Moves (x x' : Channel) : Prop where
  desc : x'.desc = x.desc
  fifo : x'.fifo = x.fifo
  reserved : x'.reserved = x.reserved
  claimed : x'.claimed = x.claimed
  late : x.late ≤ 15 → x'.late ≤ 15
  slips : x.slips ≤ 255 → x'.slips ≤ 255
  state : x'.state = x.state ∨ x'.state = .idle ∨ x'.state = .faulted ∨ (x.state = .running ∧ x'.state = .draining)

/-- A state with the record in flight gone from between `a` and `b` after its word, and its bank OPEN (R29, R77). -/
def State.leaves (s : State) (a : List Record) (r : Record) (b : List Record) : State :=
  { s with
    store := (s.moveWord r).store, host := (s.moveWord r).host, chans := (s.moveWord r).chans, queue := a ++ b
    banks := s.banks.set r.bank ((s.bank r.bank).enter .rowOpen) }

/-- The Host Transfer Unit after the completion of a record, bad or not (R103, R107, R108). -/
def HostUnit.completed (h : HostUnit) (r : Record) (bad : Bool) : HostUnit :=
  match r.source, r.kind with
  | .host, .read => { h with rdbad := h.rdbad || bad }
  | .host, _ => { h with writeBuf := [] }
  | .chan _, _ => h

/-- The precharge-all action after a removal (R95, R178). -/
def State.actionAfter (s : State) (q : List Record) : Bool := if s.mode = .holdEntry ∧ q = [] then true else s.prechargeAll

/-- The kinds of change that the steps are made of. Each names the tests of the model that it is made under. -/
inductive Change (s : State) : State → Prop
  /-- Items outside the core change, each list and the store keeping its own law. -/
  | aside (t : State) (core : t.core = s.core) (faults : s.faultLimits = true → t.faultLimits = true)
      (weak : s.weakLimits = true → t.weakLimits = true) (store : s.store.wf = true → t.store.wf = true) : Change s t
  | lanes (f : PerBank BankLane) (moves : ∀ b, (s.bank b).Moves s.mode (f.get b)) : Change s { s with banks := f }
  | chans (f : PerChan Channel) (moves : ∀ c, (s.chan c).Moves (f.get c)) : Change s { s with chans := f }
  /-- The Host Transfer Unit alone changes, keeping its law (R101 to R106). -/
  | host (h : HostUnit) (kept : s.recordsOk = true → s.hostBuffers = true → ({ s with host := h } : State).hostBuffers = true) :
      Change s { s with host := h }
  -- resets and the tables
  | reset (store : Store) (por pin heldPin heldPor : Bool) (kept : s.store.wf = true → store.wf = true) :
      Change s { s.resetItems with store := store, por := por, pin := pin, heldPin := heldPin, heldPor := heldPor }
  | timing (i : Nat) (v : Byte) (mode : s.mode = .setup) :
      Change s { s with
        timing := (s.storeTiming i v).timing, banks := (s.storeTiming i v).banks, weak := (s.storeTiming i v).weak }
  | desc (c : Chan) (i : Nat) (v : Byte) (stopped : (s.chan c).state = .idle ∨ (s.chan c).state = .faulted)
      (none : s.outstanding c = 0) : Change s (s.setChan c { s.chan c with desc := (s.chan c).desc.setIfInBounds i v })
  -- modes
  | bringup (released : s.inReset = false) (mode : s.mode = .setup) : Change s { s with mode := .warming }
  | warmedUp (mode : s.mode = .warming) (closed : s.allPresent .closed = true) : Change s { s with mode := .run }
  | hold (mode : s.mode = .run) (quiet : ∀ c, (s.chan c).busy = false ∧ s.outstanding c = 0)
      (active : ∀ b, (s.bank b).paused = false) :
      Change s { s with mode := .holdEntry, prechargeAll := if s.queue = [] then true else s.prechargeAll }
  | held (mode : s.mode = .holdEntry) (action : s.prechargeAll = true) (held : s.allPresent .held = true) :
      Change s { s with mode := .hold, prechargeAll := false }
  | wake (mode : s.mode = .hold) : Change s { s with mode := .waking }
  | woken (mode : s.mode = .waking) :
      Change s { s with mode := .run, banks := s.banks.map fun _ l => if l.state = .held then l.released else l }
  | quiesce (mode : s.mode = .run) :
      Change s { s with
        mode := .quiescing, prechargeAll := true, queue := s.queue.filter (·.state == .active), host := s.resetHost
        chans := s.clearTraffic.chans, strobe := s.clearTraffic.strobe, lanePtr := .c0 }
  | quiesced (mode : s.mode = .quiescing) (empty : s.queue = []) (closed : s.allPresent .closed = true) :
      Change s { s with mode := .run, prechargeAll := false, host := HostUnit.reset }
  -- the choices of the banks
  | drop (b : Bank) : Change s (s.dropSelection b)
  | select (b : Bank) (line : ChoiceLine) (i : Nat) (r : Record) (place : s.queue[i]? = some r) (bank : r.bank = b)
      (state : r.state = .waiting ∨ r.state = .resumable) (isOpen : (s.bank b).state = .rowOpen)
      (row : (s.bank b).line.openRow = some r.nextRow) (unready : ∀ q ∈ s.queue, q.bank = b → q.selected = none) :
      Change s (s.select line i)
  | precharge (b : Bank) (isOpen : (s.bank b).state = .rowOpen) : Change s (s.startPrecharge b)
  -- records that join, wait and leave
  | joinRead (mode : s.mode = .run) (room : s.queue.length < 8) (free : s.hrdPend = false) (empty : s.host.readBuf = [])
      (ok : (s.regs.transferRecord .read .waiting).ok = true) : Change s (s.join (s.regs.transferRecord .read .waiting))
  | joinWrite (mode : s.mode = .run) (room : s.queue.length < 8) (free : s.hwrPend = false)
      (ok : (s.regs.transferRecord .write .staging).ok = true) :
      Change s { s.join (s.regs.transferRecord .write .staging) with
        host := { s.host with writeBuf := [], writeOpen := some s.regs.count, heldLow := none } }
  | joinByte (mode : s.mode = .run) (room : s.queue.length < 8) (free : s.hwrPend = false) : Change s (s.join s.regs.byteRecord)
  | post (c : Chan) (running : (s.chan c).state = .running) (accepted : s.slipReason c = none) : Change s (s.postBurst c)
  | stage (n : Nat) (buf : List Data) (isOpen : s.host.writeOpen = some n) (last : n = buf.length) :
      Change s (State.stagingToWaiting { s with host := { s.host with writeBuf := buf, heldLow := none, writeOpen := none } })
  | age (c : Chan) : Change s { s with queue := s.queue.map (Record.aged c) }
  | withdraw (c : Chan) (busy : (s.chan c).busy = true) : Change s (s.withdrawChan c)
  | start (c : Chan) (mode : s.mode = .run) (none : s.outstanding c = 0) (range : s.descRangeFails (s.chan c) = false) :
      Change s (s.startChan c)
  | cancel : Change s { s.withdrawHost with prechargeAll := s.actionAfter s.withdrawHost.queue }
  -- the data path
  | grant (a a' : List Record) (r : Record) (b : List Record) (queue : s.queue = a ++ r :: b) (free : s.pathFree = true)
      (isOpen : (s.bank r.bank).state = .rowOpen) (selected : r.selected.isSome = true)
      (older : List.Forall₂ (fun p p' => p' = p ∨ p' = p.bypassed) a a') :
      Change s { s with
        banks := s.banks.set r.bank ((s.bank r.bank).enter .transferring)
        queue := a' ++ { r with state := .active, selected := none } :: b }
  | word (a : List Record) (r : Record) (b : List Record) (bad : Bool) (queue : s.queue = a ++ r :: b) (active : r.state = .active)
      (more : r.done + 1 < r.count) :
      Change s { s with
        store := (s.moveWord r).store, host := (s.moveWord r).host, chans := (s.moveWord r).chans
        queue := a ++ r.wordDone bad :: b }
  | suspend (a : List Record) (r : Record) (b : List Record) (queue : s.queue = a ++ r :: b) (active : r.state = .active)
      (transferring : (s.bank r.bank).state = .transferring) (started : 1 ≤ r.done) (mode : s.mode ≠ .quiescing) :
      Change s { s with
        banks := s.banks.set r.bank ((s.bank r.bank).enter .rowOpen), queue := a ++ { r with state := .resumable } :: b }
  | complete (a : List Record) (r : Record) (b : List Record) (bad : Bool) (queue : s.queue = a ++ r :: b)
      (active : r.state = .active) (transferring : (s.bank r.bank).state = .transferring) (mode : s.mode ≠ .quiescing)
      (last : r.count ≤ r.done + 1) :
      Change s { s.leaves a r b with
        host := (s.moveWord r).host.completed r bad, prechargeAll := s.actionAfter (a ++ b) }
  | remove (a : List Record) (r : Record) (b : List Record) (queue : s.queue = a ++ r :: b) (active : r.state = .active)
      (transferring : (s.bank r.bank).state = .transferring) (mode : s.mode = .quiescing) :
      Change s { s.leaves a r b with
        host := ((s.leaves a r b).clearWaiting r).host, chans := ((s.leaves a r b).clearWaiting r).chans
        strobe := ((s.leaves a r b).clearWaiting r).strobe }
  -- the lane
  | fetch (c : Chan) (w : Data) (rest : List Data) (direction : (s.chan c).direction = .fetch) (fifo : (s.chan c).fifo = w :: rest) :
      Change s { s.setChan c { s.chan c with fifo := rest } with strobe := some (.fetch c w) }
  | deposit (c : Chan) (direction : (s.chan c).direction = .deposit) (servable : (s.chan c).servable = true) :
      Change s { s with strobe := some (.deposit c false) }
  | captured (c : Chan) (ld : Data) (strobe : s.strobe = some (.deposit c false)) :
      Change s { s.setChan c { s.chan c with fifo := (s.chan c).fifo ++ [ld] } with strobe := none }
  | released : Change s { s with strobe := none }

/-- A chain of changes. -/
def Changes : State → State → Prop := Relation.ReflTransGen Change

end Sys2Proof.Machine
end

section
/-! The laws of the fault list and of the Weak Row List, and what keeps them. -/

namespace Sys2Proof.Machine

/-! ### The laws of the fault list (R157 to R159) -/

/-- A fault list without repeated identities, as a statement on all pairs. -/
theorem faultsDistinct_iff (fs : List FaultRecord) : faultsDistinct fs = true ↔ fs.Pairwise fun f g => f.same g = false := by
  induction fs with
  | nil => simp [faultsDistinct]
  | cons f rest ih => simp [faultsDistinct, ih, List.pairwise_cons]

/-- The limits of the fault list, each by itself. -/
theorem State.faultLimits_iff (s : State) :
    s.faultLimits = true ↔ s.faults.length ≤ 8 ∧ s.faults.Pairwise (fun f g => f.same g = false) ∧
      (∀ f ∈ s.faults, 1 ≤ f.repeats ∧ f.repeats ≤ 255) ∧ s.fltLost ≤ 255 := by
  simp [State.faultLimits, faultsDistinct_iff, and_assoc]

/-- One report more leaves the identity of a record. -/
theorem FaultRecord.same_again (f g h : FaultRecord) :
    FaultRecord.same (if h.same f then f.again else f) (if h.same g then g.again else g) = f.same g := by
  split <;> split <;> rfl

/-- Two records have the same identity both ways round. -/
theorem FaultRecord.same_comm (f g : FaultRecord) : f.same g = g.same f := by
  simp only [FaultRecord.same, Bool.beq_comm (α := FaultKind), Bool.beq_comm (α := Bank), Bool.beq_comm (α := Option (Row × Col))]

/-- A report keeps the limits of the fault list. -/
theorem State.recordFault_faultLimits {s : State} {f : FaultRecord} (hf : f.repeats = 1) (h : s.faultLimits = true) :
    (s.recordFault f).faultLimits = true := by
  rw [State.faultLimits_iff] at h ⊢
  obtain ⟨hlen, hdistinct, hrepeats, hlost⟩ := h
  rcases s.recordFault_cases f with ⟨_, heq⟩ | ⟨hnew, hroom, heq⟩ | ⟨_, _, heq⟩ <;> rw [heq]
  · refine ⟨by simpa using hlen, ?_, ?_, hlost⟩
    · simpa only [List.pairwise_map, FaultRecord.same_again] using hdistinct
    · simp only [List.mem_map, forall_exists_index, and_imp]
      rintro _ g hg rfl
      have := hrepeats g hg
      split
      · simp only [FaultRecord.again]; omega
      · exact this
  · refine ⟨?_, ?_, ?_, hlost⟩
    · simpa using hroom
    · refine List.pairwise_append.mpr ⟨hdistinct, by simp, fun g hg g' hg' => ?_⟩
      rw [List.mem_singleton.mp hg', FaultRecord.same_comm]
      simpa using List.any_eq_false.mp hnew g hg
    · intro g hg
      rcases List.mem_append.mp hg with hg | hg
      · exact hrepeats g hg
      · rw [List.mem_singleton.mp hg, hf]; omega
  · exact ⟨hlen, hdistinct, hrepeats, Nat.min_le_left ..⟩

/-! ### The laws of the Weak Row List (R57, R58) -/

theorem weakSorted_iff (ws : List WeakEntry) : weakSorted ws = true ↔ ws.Pairwise fun e f => e.before f = true := by
  induction ws with
  | nil => simp [weakSorted]
  | cons e rest ih => simp [weakSorted, ih, List.pairwise_cons]

/-- The limits of the Weak Row List, each by itself. -/
theorem State.weakLimits_iff (s : State) :
    s.weakLimits = true ↔
      s.weak.length ≤ 16 ∧ s.weak.Pairwise (fun e f => e.before f = true) ∧ ∀ e ∈ s.weak, e.misses ≤ 15 := by
  simp [State.weakLimits, weakSorted_iff, and_assoc]

theorem WeakEntry.before_iff (e f : WeakEntry) :
    e.before f = true ↔ e.bank.num < f.bank.num ∨ (e.bank.num = f.bank.num ∧ e.row.toNat < f.row.toNat) := by
  have : e.bank = f.bank ↔ e.bank.num = f.bank.num := ⟨congrArg _, Bank.num_inj⟩
  simp [WeakEntry.before, this]

/-- A list keeps its limits where its entries keep bank, row and the bound of their misses. -/
theorem State.weakLimits_map {s t : State} {f : WeakEntry → WeakEntry} (ht : t.weak = s.weak.map f)
    (hf : ∀ e, (f e).bank = e.bank ∧ (f e).row = e.row ∧ (e.misses ≤ 15 → (f e).misses ≤ 15)) (h : s.weakLimits = true) :
    t.weakLimits = true := by
  rw [State.weakLimits_iff] at h ⊢
  obtain ⟨hlen, hsorted, hmisses⟩ := h
  have hbefore (e e' : WeakEntry) : (f e).before (f e') = e.before e' := by
    obtain ⟨hb, hr, _⟩ := hf e
    obtain ⟨hb', hr', _⟩ := hf e'
    simp only [WeakEntry.before, hb, hr, hb', hr']
  rw [ht]
  refine ⟨by simpa using hlen, ?_, ?_⟩
  · simpa only [List.pairwise_map, hbefore] using hsorted
  · simp only [List.mem_map, forall_exists_index, and_imp]
    rintro _ e he rfl
    exact (hf e).2.2 (hmisses e he)

/-- A list keeps its limits where entries leave it. -/
theorem State.weakLimits_sublist {s t : State} (ht : t.weak.Sublist s.weak) (h : s.weakLimits = true) : t.weakLimits = true := by
  rw [State.weakLimits_iff] at h ⊢
  obtain ⟨hlen, hsorted, hmisses⟩ := h
  exact ⟨ht.length_le.trans hlen, hsorted.sublist ht, fun e he => hmisses e (ht.subset he)⟩

/-- The report of a regular refresh leaves an entry's bank and row, and its misses at 15 at most (R60, R61). -/
theorem WeakEntry.afterRefresh_keeps (e : WeakEntry) (b : Bank) (row : Row) (paused : Bool) :
    (e.afterRefresh b row paused).bank = e.bank ∧ (e.afterRefresh b row paused).row = e.row ∧
      (e.misses ≤ 15 → (e.afterRefresh b row paused).misses ≤ 15) := by
  unfold WeakEntry.afterRefresh
  split
  · exact ⟨rfl, rfl, id⟩
  · split
    · split
      · exact ⟨rfl, rfl, fun _ => Nat.min_le_left ..⟩
      · exact ⟨rfl, rfl, id⟩
    · exact ⟨rfl, rfl, id⟩

theorem insertWeak_perm (e : WeakEntry) (ws : List WeakEntry) : (insertWeak e ws).Perm (e :: ws) := by
  induction ws with
  | nil => exact .refl _
  | cons f rest ih =>
    unfold insertWeak
    split
    · exact .refl _
    · exact (ih.cons f).trans (.swap e f rest)

/-- An entry put at its place keeps the list sorted, where no entry of its bank and row is there. -/
theorem insertWeak_pairwise {e : WeakEntry} {ws : List WeakEntry} (h : ws.Pairwise fun e f => e.before f = true)
    (hnew : ∀ f ∈ ws, ¬(f.bank = e.bank ∧ f.row.toNat = e.row.toNat)) :
    (insertWeak e ws).Pairwise fun e f => e.before f = true := by
  induction ws with
  | nil => simp [insertWeak]
  | cons f rest ih =>
    obtain ⟨hf, hrest⟩ := List.pairwise_cons.mp h
    unfold insertWeak
    split
    · next hbefore =>
      refine List.pairwise_cons.mpr ⟨fun g hg => ?_, h⟩
      rcases List.mem_cons.mp hg with rfl | hg
      · exact hbefore
      · have := hf g hg
        rw [WeakEntry.before_iff] at hbefore this ⊢
        omega
    · next hbefore =>
      refine List.pairwise_cons.mpr ⟨fun g hg => ?_, ih hrest fun g hg => hnew g (List.mem_cons_of_mem f hg)⟩
      rcases List.mem_cons.mp ((insertWeak_perm e rest).mem_iff.mp hg) with rfl | hg
      · have hne := hnew f List.mem_cons_self
        have hbank : f.bank = g.bank ↔ f.bank.num = g.bank.num := ⟨congrArg _, Bank.num_inj⟩
        rw [WeakEntry.before_iff] at hbefore ⊢
        rw [hbank] at hne
        omega
      · exact hf g hg

end Sys2Proof.Machine
end

section
/-! Chains of changes: items outside the core, the choices of the banks, commands. -/

namespace Sys2Proof.Machine

/-! ### Chains of changes -/

theorem Changes.refl (s : State) : Changes s s := Relation.ReflTransGen.refl

theorem Changes.trans {s t u : State} (h : Changes s t) (k : Changes t u) : Changes s u := Relation.ReflTransGen.trans h k

theorem Change.chain {s t : State} (h : Change s t) : Changes s t := .single h

/-- Items outside the core and the lists change. -/
theorem Changes.outside {s t : State} (core : t.core = s.core) (faults : t.faults = s.faults) (lost : t.fltLost = s.fltLost)
    (weak : t.weak = s.weak) (store : t.store = s.store) : Changes s t :=
  (Change.aside t core (by simp only [State.faultLimits, faults, lost, imp_self]) (by simp only [State.weakLimits, weak, imp_self])
    (by rw [store]; exact id)).chain

/-- A state under another name. -/
theorem Changes.of_eq {s t u : State} (h : Changes s t) (eq : u = t) : Changes s u := eq ▸ h

theorem State.raise_changes (s : State) (e : Event) : Changes s (s.raise e) := .outside rfl rfl rfl rfl rfl

theorem State.raiseIf_changes (s : State) (cause : Bool) (e : Event) : Changes s (s.raiseIf cause e) := by
  cases cause
  · exact .refl s
  · exact s.raise_changes e

/-- A fault report changes the fault list alone. -/
theorem State.recordFault_changes (s : State) {f : FaultRecord} (hf : f.repeats = 1) : Changes s (s.recordFault f) :=
  (Change.aside _ (by rw [s.recordFault_frame f]; rfl) (State.recordFault_faultLimits hf)
    (by rw [s.recordFault_frame f]; exact id) (by rw [s.recordFault_frame f]; exact id)).chain

/-- The weak row list alone changes, with flags. -/
theorem Changes.weakList {s : State} (ws : List WeakEntry) (ev : EventRegs)
    (h : s.weakLimits = true → ({ s with weak := ws, events := ev } : State).weakLimits = true) :
    Changes s { s with weak := ws, events := ev } :=
  Change.chain (.aside { s with weak := ws, events := ev } rfl id h id)

theorem BankLane.Moves.refl (m : Mode) (l : BankLane) : l.Moves m l := .counts l rfl rfl rfl (.inr ⟨rfl, rfl⟩) id (.inl rfl)

theorem Channel.Moves.refl (x : Channel) : x.Moves x := ⟨rfl, rfl, rfl, rfl, id, id, .inl rfl⟩

/-- One lane changes. -/
theorem State.setBank_changes (s : State) {b : Bank} {l : BankLane} (h : (s.bank b).Moves s.mode l) : Changes s (s.setBank b l) := by
  refine (Change.lanes _ fun b' => ?_).chain
  by_cases hb : b' = b
  · rw [hb, PerBank.get_set_same]; exact h
  · rw [PerBank.get_set_other _ _ hb]; exact .refl _ _

/-- One channel changes. -/
theorem State.setChan_changes (s : State) {c : Chan} {x : Channel} (h : (s.chan c).Moves x) : Changes s (s.setChan c x) := by
  refine (Change.chans _ fun c' => ?_).chain
  by_cases hc : c' = c
  · rw [hc, PerChan.get_set_same]; exact h
  · rw [PerChan.get_set_other _ _ hc]; exact .refl _

/-! Chains that end in an update of the state. -/

theorem Changes.raise {s t : State} (h : Changes s t) (e : Event) : Changes s (t.raise e) := h.trans (t.raise_changes e)

theorem Changes.raiseIf {s t : State} (h : Changes s t) (cause : Bool) (e : Event) : Changes s (t.raiseIf cause e) :=
  h.trans (t.raiseIf_changes cause e)

theorem Changes.recordFault {s t : State} (h : Changes s t) {f : FaultRecord} (hf : f.repeats = 1) : Changes s (t.recordFault f) :=
  h.trans (t.recordFault_changes hf)

theorem Changes.setBank {s t : State} (h : Changes s t) {b : Bank} {l : BankLane} (hl : (t.bank b).Moves t.mode l) :
    Changes s (t.setBank b l) := h.trans (t.setBank_changes hl)

theorem Changes.setChan {s t : State} (h : Changes s t) {c : Chan} {x : Channel} (hx : (t.chan c).Moves x) :
    Changes s (t.setChan c x) := h.trans (t.setChan_changes hx)

/-- A lane enters a state without a row. -/
theorem State.enter_changes (s : State) {b : Bank} {st : BankState} (h : (s.bank b).state.Passes s.mode st) :
    Changes s (s.setBank b ((s.bank b).enter st)) :=
  s.setBank_changes (.passes _ h rfl (le_refl _) rfl)

/-! ### The choices of the banks -/

theorem State.enterHeld_changes (s : State) {b : Bank} (hb : (s.bank b).state = .closed) (hm : s.mode = .holdEntry)
    (ha : s.prechargeAll = true) : Changes s (s.enterHeld b) := by
  have enters : Changes s (s.setBank b ((s.bank b).enter .held)) := s.enter_changes (by rw [hb]; exact .holds hm)
  unfold State.enterHeld
  simp only
  split
  · next hall => exact (enters.trans (Change.held (s := s.setBank b _) hm ha hall).chain).trans (Changes.outside rfl rfl rfl rfl rfl)
  · exact enters

theorem State.holdSequence_changes (s : State) {b : Bank} (hb : (s.bank b).state = .closed) (hm : s.mode = .holdEntry)
    (ha : s.prechargeAll = true) : Changes s (s.holdSequence b) := by
  unfold State.holdSequence
  split
  · exact s.enter_changes (by rw [hb, hm]; exact .refreshes _ _ nofun)
  · split
    · exact s.enter_changes (by rw [hb, hm]; exact .refreshes _ _ nofun)
    · exact s.enterHeld_changes hb hm ha

theorem State.chooseClosed_changes (s : State) {b : Bank} (hb : (s.bank b).state = .closed) (hm : s.mode ≠ .warming) :
    Changes s (s.chooseClosed b) := by
  have refreshes (k : RefreshKind) (row : Row) : Changes s (s.setBank b ((s.bank b).enter (.refreshing k row))) :=
    s.enter_changes (by rw [hb]; exact .refreshes _ _ hm)
  unfold State.chooseClosed
  split
  · next hm => exact s.holdSequence_changes hb hm.1 hm.2
  · split
    · exact refreshes _ _
    · split
      · exact refreshes _ _
      · split
        · exact s.enter_changes (by rw [hb]; exact .activates _ hm)
        · split
          · exact refreshes _ _
          · exact .refl s

theorem State.chooseOpen_changes (s : State) {b : Bank} (hb : (s.bank b).state = .rowOpen) (hr : s.ready b = false) :
    Changes s (s.chooseOpen b) := by
  unfold State.chooseOpen
  split
  · exact (Change.precharge b hb).chain
  · split
    · next line i hc =>
      split
      · next hrow =>
        obtain ⟨r, hr', hrb, he, _⟩ := State.candidate_choosable hc
        rw [hr'] at hrow
        refine (Change.select b line i r hr' hrb ((eligible_iff _ _).mp he).1 hb hrow.symm fun q hq hqb => ?_).chain
        by_contra hsel
        exact Bool.eq_false_iff.mp hr ((s.ready_iff b).mpr ⟨hb, q, hq, hqb, Option.isSome_iff_ne_none.mpr hsel⟩)
      · exact (Change.precharge b hb).chain
    · split
      · exact .refl s
      · exact (Change.precharge b hb).chain

theorem State.choose_changes (s : State) (b : Bank) : Changes s (s.choose b) := by
  unfold State.choose
  split
  · next hin =>
    simp only [State.inChoice, Bool.and_eq_true, Bool.or_eq_true, beq_iff_eq, Bool.not_eq_true'] at hin
    obtain ⟨⟨hmode, hstate⟩, hready⟩ := hin
    have mode : s.mode ≠ .warming := by rcases hmode with (hm | hm) | hm <;> rw [hm] <;> nofun
    split
    · next hb => exact s.chooseOpen_changes hb hready
    · next hb => exact s.chooseClosed_changes (hstate.resolve_right hb) mode
  · exact .refl s

theorem State.reconsider_changes (s : State) (b : Bank) : Changes s (s.reconsider b) := by
  unfold State.reconsider
  split
  · exact (Change.drop b).chain.trans ((s.dropSelection b).choose_changes b)
  · exact s.choose_changes b

theorem State.reconsiderAll_changes (s : State) : Changes s s.reconsiderAll :=
  (((s.reconsider_changes .b0).trans (State.reconsider_changes _ .b1)).trans (State.reconsider_changes _ .b2)).trans
    (State.reconsider_changes _ .b3)

/-- A chain of changes, then the choices of all banks. -/
theorem Changes.choices {s t : State} (h : Changes s t) : Changes s t.reconsiderAll := h.trans t.reconsiderAll_changes

theorem State.quiesceTest_changes (s : State) : Changes s s.quiesceTest := by
  unfold State.quiesceTest
  split
  · next h =>
    obtain ⟨hmode, hqueue, _, hclosed⟩ := h
    exact (Change.quiesced hmode hqueue hclosed).chain.trans (State.raise_changes _ _)
  · exact .refl s

theorem State.quiesceTest_of_mode {s : State} (h : s.mode ≠ .quiescing) : s.quiesceTest = s := by
  rw [State.quiesceTest, if_neg fun hq => h hq.1]

/-- Outside QUIESCING a removal is followed by the precharge-all action alone. -/
theorem State.afterRemoval_eq {s : State} (h : s.mode ≠ .quiescing) :
    s.afterRemoval = { s with prechargeAll := s.actionAfter s.queue } := by
  unfold State.afterRemoval State.actionAfter
  split
  · rfl
  · exact State.quiesceTest_of_mode h

/-! ### Commands -/

theorem State.outOfReset_changes (s : State) {f : State → State} (h : s.inReset = false → Changes s (f s)) :
    Changes s (s.outOfReset f) := by
  cases hr : s.inReset
  · rw [State.outOfReset_of_not hr]; exact h hr
  · rw [State.outOfReset_of_inReset hr]; exact .refl s

theorem State.refuse_changes (s : State) (r : Result) : Changes s (s.refuse r) := .outside rfl rfl rfl rfl rfl

/-- A command makes the changes of its effect where its tests pass, and otherwise none of the core. -/
theorem State.command_changes (s : State) {taken : List Mode} {q : Result} {check : State → Option Result} {effect : State → State}
    (h : s.inReset = false → s.mode ∈ taken → check s = none → Changes (s.withResult .ok) (effect (s.withResult .ok))) :
    Changes s (s.command taken q check effect) := by
  rcases s.command_cases taken q check effect with ⟨_, heq⟩ | ⟨_, r, _, heq⟩ | ⟨_, _, r, _, heq⟩ | ⟨hr, hmode, hcheck, heq⟩ <;> rw [heq]
  · exact .refl s
  · exact s.refuse_changes r
  · exact s.refuse_changes r
  · have taken : s.mode ∈ taken := by
      by_contra hm
      have : modeTest s.mode taken q ≠ none := by
        simp only [modeTest, List.contains_iff_mem, hm, if_false]
        split <;> simp
      exact this hmode
    exact Changes.trans (t := s.withResult .ok) (.outside rfl rfl rfl rfl rfl) (h hr taken hcheck)

/-- A list of checks passes when each does. -/
theorem firstFailure_cons_none {f : Bool} {r : Result} {rest : List (Bool × Result)} :
    firstFailure ((f, r) :: rest) = none ↔ f = false ∧ firstFailure rest = none := by
  cases f <;> simp [firstFailure]

end Sys2Proof.Machine
end

section
/-! Chains of changes: period ticks, refresh ticks, the stop of a channel. -/

namespace Sys2Proof.Machine

/-! ### Period ticks -/

theorem State.ageRecords_changes (s : State) (c : Chan) : Changes s (s.ageRecords c) := by
  have aged : Changes s { s with queue := s.queue.map (Record.aged c) } := (Change.age c).chain
  unfold State.ageRecords
  simp only
  split
  · refine Changes.raise (aged.setChan ?_) _
    exact ⟨rfl, rfl, rfl, rfl, fun _ => Nat.min_le_left .., id, .inl rfl⟩
  · exact aged

theorem State.tryPost_changes (s : State) {c : Chan} (h : (s.chan c).state = .running) : Changes s (s.tryPost c) := by
  unfold State.tryPost
  split
  · refine Changes.raise (s.setChan_changes ?_) _
    exact ⟨rfl, rfl, rfl, rfl, id, fun _ => Nat.min_le_left .., .inl rfl⟩
  · next hr => exact (Change.post c h hr).chain

theorem State.faultChan_changes (s : State) {c : Chan} (h : (s.chan c).state = .running) : Changes s (s.faultChan c) := by
  have busy : (s.chan c).busy = true := by simp [Channel.busy, h]
  refine Changes.raise (Changes.setChan (Change.withdraw c busy).chain ?_) _
  exact ⟨rfl, rfl, rfl, rfl, id, id, .inr (.inr (.inl rfl))⟩

theorem State.periodSteps_changes (s : State) (c : Chan) : Changes s (s.periodSteps c) := by
  have aged := s.ageRecords_changes c
  unfold State.periodSteps
  simp only
  split
  · next hrun =>
    split
    · exact aged.trans (State.faultChan_changes _ hrun)
    · exact aged.trans (State.tryPost_changes _ hrun)
  · exact aged

theorem State.period_changes (s : State) (c : Chan) (n : Nat) : Changes s (s.setChan c { s.chan c with period := n }) :=
  s.setChan_changes ⟨rfl, rfl, rfl, rfl, id, id, .inl rfl⟩

theorem State.sourceEvent_changes (s : State) (c : Chan) : Changes s (s.sourceEvent c) := by
  unfold State.sourceEvent
  simp only
  split
  · exact (s.period_changes c 0).trans (State.periodSteps_changes _ c)
  · exact s.period_changes c _

theorem State.refreshEvents_changes (s : State) (cs : List Chan) : Changes s (cs.foldl State.refreshEvent s) := by
  induction cs generalizing s with
  | nil => exact .refl s
  | cons c rest ih =>
    have first : Changes s (s.refreshEvent c) := by
      unfold State.refreshEvent
      split
      · exact s.sourceEvent_changes c
      · exact .refl s
    exact first.trans (ih _)

/-! ### Refresh ticks -/

theorem State.loseStore_changes (s : State) (b : Bank) : Changes s { s with store := s.store.lose b } :=
  Change.chain (.aside { s with store := s.store.lose b } rfl id id fun h => Store.lose_wf h b)

theorem State.raiseDebt_changes (s : State) (b : Bank) : Changes s (s.raiseDebt b) := by
  unfold State.raiseDebt
  simp only
  split
  · exact .refl s
  · split
    · next hdebt =>
      refine Changes.raiseIf (s.setBank_changes ?_) _ _
      exact .counts _ rfl rfl rfl (.inr ⟨rfl, rfl⟩) (fun _ => hdebt) (.inl rfl)
    · have lost := s.loseStore_changes b
      split
      · exact lost
      · refine Changes.raise (Changes.recordFault (lost.setBank ?_) rfl) _
        exact .counts _ rfl rfl rfl (.inr ⟨rfl, rfl⟩) id (.inl rfl)

theorem State.raiseDebts_changes (s : State) : Changes s s.raiseDebts := by
  unfold State.raiseDebts
  split
  · exact (((s.raiseDebt_changes .b0).trans (State.raiseDebt_changes _ .b1)).trans (State.raiseDebt_changes _ .b2)).trans
      (State.raiseDebt_changes _ .b3)
  · exact .refl s

theorem State.startWarmup_changes (s : State) (hm : s.mode = .warming) : Changes s s.startWarmup := by
  refine (Change.lanes (s.banks.map fun _ l => if l.state = .cold then l.enter .warming else l) fun b => ?_).chain.trans
    (.outside rfl rfl rfl rfl rfl)
  rw [PerBank.get_map]
  split
  · next hcold => exact .passes _ (by rw [show (s.bank b).state = .cold from hcold]; exact .warms hm) rfl (le_refl _) rfl
  · exact .refl _ _

theorem State.finishWake_changes (s : State) (hm : s.mode = .waking) : Changes s s.finishWake :=
  (Change.woken hm).chain.trans (.outside rfl rfl rfl rfl rfl)

theorem State.countSettle_changes (s : State) : Changes s s.countSettle := by
  have counted : Changes s { s with settle := s.settle + 1 } := .outside rfl rfl rfl rfl rfl
  unfold State.countSettle
  split
  · simp only
    split
    · next hm =>
      split
      · exact s.startWarmup_changes hm
      · exact counted
    · next hm =>
      split
      · exact s.finishWake_changes hm
      · exact counted
    all_goals exact .refl s
  · exact .refl s

/-! ### Channels -/

theorem State.chanState_changes (s : State) {c : Chan} {st : ChanState}
    (h : st = .idle ∨ st = .faulted ∨ ((s.chan c).state = .running ∧ st = .draining)) :
    Changes s (s.setChan c { s.chan c with state := st }) :=
  s.setChan_changes ⟨rfl, rfl, rfl, rfl, id, id, .inr h⟩

/-- A RUNNING channel stops, or one that stops at once since nothing is outstanding. -/
theorem State.stopChan_changes (s : State) {c : Chan} (h : (s.chan c).busy = true) : Changes s (s.stopChan c) := by
  unfold State.stopChan
  split
  · exact Changes.raise (s.chanState_changes (.inl rfl)) _
  · simp only [Channel.busy, Bool.or_eq_true, beq_iff_eq] at h
    rcases h with h | h
    · exact s.chanState_changes (.inr (.inr ⟨h, rfl⟩))
    · exact s.setChan_changes ⟨rfl, rfl, rfl, rfl, id, id, .inl h.symm⟩

theorem State.drainTest_changes (s : State) (c : Chan) : Changes s (s.drainTest c) := by
  unfold State.drainTest
  split
  · exact Changes.raise (s.chanState_changes (.inl rfl)) _
  · exact .refl s

/-- What a check of the named channel passes. -/
theorem State.checkChan_none {s : State} {check : Chan → Option Result} (h : s.checkChan check = none) :
    ∃ c, s.regs.argChan = some c ∧ check c = none := by
  unfold State.checkChan at h
  split at h
  · cases h
  · next c hc => exact ⟨c, hc, h⟩

theorem State.onChan_eq {s : State} {c : Chan} (h : s.regs.argChan = some c) (effect : Chan → State) : s.onChan effect = effect c := by
  rw [State.onChan, h]

/-- What a check of the named bank passes. -/
theorem State.checkBank_none {s : State} {check : Bank → Option Result} (h : s.checkBank check = none) :
    ∃ b, s.argPresent = some b ∧ check b = none := by
  unfold State.checkBank at h
  split at h
  · cases h
  · next b hb => exact ⟨b, hb, h⟩

theorem State.onBank_eq {s : State} {b : Bank} (h : s.argPresent = some b) (effect : Bank → State) : s.onBank effect = effect b := by
  rw [State.onBank, h]

end Sys2Proof.Machine
end

section
/-! The data-path arbiter: the place that it names, and the change that a grant is. -/

namespace Sys2Proof.Machine

/-! ### The data-path arbiter (R86) -/

/-- The selections of READY banks are those of OPEN banks: a record's own note makes its bank READY. -/
theorem State.isSelection_iff {s : State} {r : Record} (h : r ∈ s.queue) :
    (r.selected.isSome && s.ready r.bank) = true ↔ r.selected.isSome = true ∧ (s.bank r.bank).state = .rowOpen := by
  rw [Bool.and_eq_true, s.ready_iff]
  exact ⟨fun ⟨hsel, hopen, _⟩ => ⟨hsel, hopen⟩, fun ⟨hsel, hopen⟩ => ⟨hsel, hopen, r, h, rfl, hsel⟩⟩

/-- Where a search of the queue by a test of its records stops. -/
theorem findIdx?_iff_getElem? {α : Type} {l : List α} {p : α → Bool} {i : Nat} :
    l.findIdx? p = some i ↔ (∃ r, l[i]? = some r ∧ p r = true) ∧ ∀ j q, j < i → l[j]? = some q → p q = false := by
  rw [List.findIdx?_eq_some_iff_getElem]
  constructor
  · rintro ⟨hi, hp, hbefore⟩
    refine ⟨⟨l[i], List.getElem?_eq_getElem hi, hp⟩, fun j q hj hq => ?_⟩
    obtain ⟨hlen, rfl⟩ := List.getElem?_eq_some_iff.mp hq
    simpa using hbefore j hj
  · rintro ⟨⟨r, hr, hp⟩, hbefore⟩
    obtain ⟨hi, rfl⟩ := List.getElem?_eq_some_iff.mp hr
    exact ⟨hi, hp, fun j hj => by simpa using hbefore j _ hj (List.getElem?_eq_getElem (hj.trans hi))⟩

theorem State.selectionAt_iff {s : State} {i : Nat} {r : Record} :
    s.SelectionAt i r ↔ s.queue[i]? = some r ∧ (r.selected.isSome && s.ready r.bank) = true := by
  unfold State.SelectionAt
  refine and_congr_right fun h => ?_
  rw [State.isSelection_iff (List.mem_of_getElem? h)]

/-- The arbiter's place is that of the selection that its decision names. -/
theorem State.grantPlace_iff (s : State) (i : Nat) : s.grantPlace = some i ↔ ∃ r, s.GrantNames i r := by
  have urgent : (s.queue.findIdx? fun r => (r.selected.isSome && s.ready r.bank) && r.urgent) = none ↔
      ∀ j q, s.SelectionAt j q → q.urgent = false := by
    rw [List.findIdx?_eq_none_iff]
    constructor
    · intro h j q hq
      obtain ⟨hplace, hsel⟩ := State.selectionAt_iff.mp hq
      simpa [hsel] using h q (List.mem_of_getElem? hplace)
    · intro h q hq
      obtain ⟨j, hj⟩ := List.getElem?_of_mem hq
      rw [Bool.and_eq_false_imp]
      exact fun hsel => h j q (State.selectionAt_iff.mpr ⟨hj, hsel⟩)
  unfold State.grantPlace State.GrantNames
  simp only
  split
  · next k hk =>
    have found := hk
    rw [findIdx?_iff_getElem?] at hk
    obtain ⟨⟨r, hr, hp⟩, hbefore⟩ := hk
    rw [Bool.and_eq_true] at hp
    have first : ∀ j q, j < k → s.SelectionAt j q → q.urgent = false := fun j q hj hq => by
      obtain ⟨hplace, hsel⟩ := State.selectionAt_iff.mp hq
      simpa [hsel] using hbefore j q hj hplace
    constructor
    · rintro ⟨⟩
      exact ⟨r, State.selectionAt_iff.mpr ⟨hr, hp.1⟩, .inl ⟨hp.2, first⟩⟩
    · rintro ⟨q, hq, ⟨hurgent, hfirst⟩ | ⟨hnone, _⟩⟩
      · congr 1
        rcases Nat.lt_trichotomy k i with hlt | heq | hgt
        · simpa [hp.2] using hfirst k r hlt (State.selectionAt_iff.mpr ⟨hr, hp.1⟩)
        · exact heq
        · simpa [hurgent] using first i q hgt hq
      · rw [urgent.mpr hnone] at found
        cases found
  · next hk =>
    rw [urgent] at hk
    rw [findIdx?_iff_getElem?]
    constructor
    · rintro ⟨⟨r, hr, hp⟩, hbefore⟩
      refine ⟨r, State.selectionAt_iff.mpr ⟨hr, hp⟩, .inr ⟨hk, fun j q hj hq => ?_⟩⟩
      obtain ⟨hplace, hsel⟩ := State.selectionAt_iff.mp hq
      simp [hbefore j q hj hplace] at hsel
    · rintro ⟨r, hr, ⟨hurgent, _⟩ | ⟨_, hfirst⟩⟩
      · simpa [hurgent] using hk i r hr
      · refine ⟨⟨r, State.selectionAt_iff.mp hr⟩, fun j q hj hq => ?_⟩
        by_contra hsel
        exact hfirst j q hj (State.selectionAt_iff.mpr ⟨hq, by simpa using hsel⟩)

/-- The arbiter has no place to name where no record is a selection. -/
theorem State.grantPlace_none_iff (s : State) : s.grantPlace = none ↔ ∀ i r, ¬s.SelectionAt i r := by
  constructor
  · intro h i r hr
    unfold State.grantPlace at h
    simp only at h
    split at h
    · cases h
    · obtain ⟨hplace, hsel⟩ := State.selectionAt_iff.mp hr
      simpa [hsel] using List.findIdx?_eq_none_iff.mp h r (List.mem_of_getElem? hplace)
  · intro h
    cases hg : s.grantPlace with
    | none => rfl
    | some i =>
      obtain ⟨r, hr, _⟩ := (s.grantPlace_iff i).mp hg
      exact absurd hr (h i r)

/-- What the arbiter does with the path free and a selection named (R27, R86, R87). -/
theorem State.grant_eq {s : State} {i : Nat} {r : Record} (hp : s.pathFree = true) (h : s.GrantNames i r) :
    s.grant = { s.setBank r.bank ((s.bank r.bank).enter .transferring) with queue := grantQueue s.queue i r } := by
  rw [State.grant, if_pos hp, (s.grantPlace_iff i).mpr ⟨r, h⟩]
  simp only [h.1.1]

/-- A grant's queue among the older records. -/
theorem bypassOlder_forall₂ (b : Bank) (before rs : List Record) :
    List.Forall₂ (fun p p' => p' = p ∨ p' = p.bypassed) rs (bypassOlder b before rs) := by
  induction rs generalizing before with
  | nil => exact .nil
  | cons r rest ih =>
    refine .cons ?_ (ih _)
    split
    · exact .inr rfl
    · exact .inl rfl

/-- A record at a place cuts the queue in two. -/
theorem exists_split_of_getElem? {α : Type} {l : List α} {i : Nat} {r : α} (h : l[i]? = some r) :
    ∃ a b, l = a ++ r :: b ∧ a.length = i := by
  obtain ⟨hi, rfl⟩ := List.getElem?_eq_some_iff.mp h
  exact ⟨l.take i, l.drop (i + 1), by rw [List.cons_getElem_drop_succ, List.take_append_drop], by simp; omega⟩

theorem State.grant_changes (s : State) : Changes s s.grant := by
  by_cases hp : s.pathFree = true
  · cases hg : s.grantPlace with
    | none => rw [State.grant, if_pos hp, hg]; exact .refl s
    | some i =>
      obtain ⟨r, hr⟩ := (s.grantPlace_iff i).mp hg
      rw [State.grant_eq hp hr]
      obtain ⟨⟨hplace, hsel, hopen⟩, _⟩ := hr
      obtain ⟨a, b, hq, rfl⟩ := exists_split_of_getElem? hplace
      have queue : grantQueue s.queue a.length r =
          (if r.selected = some .openRowLine then bypassOlder r.bank [] a else a) ++
            { r with state := .active, selected := none } :: b := by
        simp [grantQueue, hq]
      rw [queue]
      refine (Change.grant a _ r b hq hp hopen hsel ?_).chain
      split
      · exact bypassOlder_forall₂ ..
      · exact List.forall₂_same.mpr fun _ _ => .inl rfl
  · rw [State.grant, if_neg hp]; exact .refl s

end Sys2Proof.Machine
end

section
/-! The end of a word as a chain of changes. -/

namespace Sys2Proof.Machine

/-! ### The end of a word -/

/-- The movement of a word changes the store, the Host Transfer Unit and the channels alone. -/
theorem State.moveWord_frame (s : State) (r : Record) :
    ∃ store host chans, s.moveWord r = { s with store := store, host := host, chans := chans } := by
  unfold State.moveWord State.deliver State.takeWord
  split
  · split
    · exact ⟨_, _, _, rfl⟩
    · exact ⟨_, _, _, rfl⟩
  · split
    · exact ⟨_, _, _, rfl⟩
    · exact ⟨_, _, _, rfl⟩
  · split
    · exact ⟨_, _, _, rfl⟩
    · split
      · exact ⟨_, _, _, rfl⟩
      · exact ⟨_, _, _, rfl⟩

/-- A fault report changes the fault list, FLTLOST and the flags alone, if it is made. -/
theorem State.recordFaultIf_frame (s : State) (bad : Bool) (f : FaultRecord) :
    ∃ faults lost events, s.recordFaultIf bad f = { s with faults := faults, fltLost := lost, events := events } := by
  cases bad
  · exact ⟨_, _, _, rfl⟩
  · exact ⟨_, _, _, s.recordFault_frame f⟩

/-- A word that is reported may be reported before it moves: a bad word of a read, or one that a byte write leaves unmerged. -/
theorem State.recordFaultIf_moveWord (s : State) (r : Record) (f : FaultRecord) :
    (s.moveWord r).recordFaultIf (s.wordBad r) f = (s.recordFaultIf (s.wordBad r) f).moveWord r := by
  cases hbad : s.wordBad r with
  | false => rfl
  | true =>
    have frame := s.recordFault_frame f
    rw [State.recordFaultIf_true, State.recordFaultIf_true]
    cases hkind : r.kind with
    | read =>
      simp only [State.moveWord, hkind, State.deliver]
      split
      · rw [State.recordFault_host, frame]; rfl
      · rw [State.setChan, State.recordFault_chans, frame]; rfl
    | write => simp [State.wordBad, hkind] at hbad
    | byteWrite =>
      cases hbyte : r.byteWrite with
      | none => simp only [State.moveWord, hkind, hbyte]
      | some lv =>
        have unmerged : (s.wordAt r).untouchedGood lv.1 = false := by simpa [State.wordBad, hkind, hbyte] using hbad
        have wordAt : (s.recordFault f).wordAt r = s.wordAt r := by rw [frame]; rfl
        simp only [State.moveWord, hkind, hbyte, wordAt, unmerged, Bool.false_eq_true, if_false]

/-- The end of a word with its report made first. -/
theorem State.endWord_eq (s : State) (i : Nat) (r : Record) :
    s.endWord i r =
      { (s.recordFaultIf (s.wordBad r) r.parityReport).moveWord r with queue := s.queue.set i (r.wordDone (s.wordBad r)) } := by
  have queue : ((s.moveWord r).recordFaultIf (s.wordBad r) r.parityReport).queue = s.queue := by
    obtain ⟨_, _, _, hm⟩ := s.moveWord_frame r
    obtain ⟨_, _, _, hf⟩ := (s.moveWord r).recordFaultIf_frame (s.wordBad r) r.parityReport
    rw [hf, hm]
  rw [State.endWord, queue, s.recordFaultIf_moveWord]

theorem State.raiseIf_frame (s : State) (cause : Bool) (e : Event) : ∃ events, s.raiseIf cause e = { s with events := events } := by
  cases cause
  · exact ⟨_, rfl⟩
  · exact ⟨_, rfl⟩

/-- The effects of a completion outside QUIESCING with what follows the removal: to the core, the host unit, the precharge-all action
and a channel that has drained. -/
theorem Changes.completion {s t : State} {r : Record} (hm : t.mode ≠ .quiescing)
    (h : Changes s { t with host := t.host.completed r (r.status == .error), prechargeAll := t.actionAfter t.queue }) :
    Changes s (t.completionEffects r).afterRemoval := by
  have raised (events : EventRegs) {host : HostUnit} (hhost : t.host.completed r (r.status == .error) = host) :
      Changes s ({ t with host := host, events := events } : State).afterRemoval := by
    rw [State.afterRemoval_eq (by exact hm), ← hhost]
    exact h.trans (.outside rfl rfl rfl rfl rfl)
  unfold State.completionEffects
  split
  · next hsource hkind =>
    obtain ⟨events, hraise⟩ := State.raiseIf_frame _ (r.status == .error) .hostErr
    rw [hraise]
    refine raised events ?_
    simp only [HostUnit.completed, hsource, hkind]; rfl
  · next hsource hkind =>
    obtain ⟨events, hraise⟩ := State.raiseIf_frame _ (r.status == .error) .hostErr
    rw [hraise]
    refine raised events ?_
    cases hk : r.kind with
    | read => exact absurd hk (hkind ·)
    | _ => simp only [HostUnit.completed, hsource, hk]; rfl
  · next c hsource =>
    have removed : Changes s t.afterRemoval := raised t.events (by simp only [HostUnit.completed, hsource])
    have commutes : (t.drainTest c).afterRemoval = t.afterRemoval.drainTest c := by
      rw [State.afterRemoval_eq hm]
      unfold State.drainTest
      split
      · next hdrained => rw [State.afterRemoval_eq (by exact hm), if_pos (by exact hdrained)]; rfl
      · next hdrained => rw [State.afterRemoval_eq hm, if_neg (by exact hdrained)]
    exact commutes ▸ removed.trans (State.drainTest_changes _ c)

/-- What stands after a word whose record then leaves: the state of `State.leaves`. -/
theorem State.endWord_leaves (s : State) {a b : List Record} {r : Record} (h : s.queue = a ++ r :: b) :
    ((s.endWord a.length r).releasePath r.bank).removeAt a.length =
      (s.recordFaultIf (s.wordBad r) r.parityReport).leaves a r b := by
  obtain ⟨_, _, _, hf⟩ := s.recordFaultIf_frame (s.wordBad r) r.parityReport
  rw [State.endWord_eq, State.leaves, hf]
  obtain ⟨_, _, _, hm⟩ := State.moveWord_frame { s with faults := _, fltLost := _, events := _ } r
  rw [hm]
  simp [State.releasePath, State.removeAt, State.setBank, State.bank, h, List.eraseIdx_append_of_length_le]

/-- The record in flight is an ACTIVE one at its place. -/
theorem State.inFlight_spec {s : State} {i : Nat} {r : Record} (h : s.inFlight = some (i, r)) :
    s.queue[i]? = some r ∧ r.state = .active := by
  unfold State.inFlight at h
  split at h
  · cases h
  · next k hk =>
    obtain ⟨⟨q, hq, hactive⟩, _⟩ := findIdx?_iff_getElem?.mp hk
    rw [hq] at h
    cases h
    exact ⟨hq, by simpa using hactive⟩

/-- A word ended that is not the last of its record. -/
theorem State.endWord_changes (s : State) {a b : List Record} {r : Record} (h : s.queue = a ++ r :: b) (active : r.state = .active)
    (more : r.done + 1 < r.count) : Changes s (s.endWord a.length r) := by
  have queue : s.queue.set a.length (r.wordDone (s.wordBad r)) = a ++ r.wordDone (s.wordBad r) :: b := by simp [h]
  have reported : Changes s (s.recordFaultIf (s.wordBad r) r.parityReport) := by
    cases s.wordBad r
    · exact .refl s
    · exact s.recordFault_changes rfl
  rw [State.endWord_eq, queue]
  obtain ⟨faults, lost, events, hf⟩ := s.recordFaultIf_frame (s.wordBad r) r.parityReport
  rw [hf] at reported ⊢
  refine (reported.trans (Change.word (s := { s with faults := faults, fltLost := lost, events := events }) a r b (s.wordBad r)
    h active more).chain).of_eq ?_
  obtain ⟨_, _, _, hm⟩ := State.moveWord_frame { s with faults := faults, fltLost := lost, events := events } r
  rw [hm]

theorem State.suspend_changes (s : State) {a b : List Record} {r : Record} (h : s.queue = a ++ r :: b) (active : r.state = .active)
    (transferring : (s.bank r.bank).state = .transferring) (started : 1 ≤ r.done) (hm : s.mode ≠ .quiescing) :
    Changes s (s.suspend a.length r) := by
  refine (Change.suspend a r b h active transferring started hm).chain.trans (.of_eq (State.reconsider_changes _ r.bank) ?_)
  simp [State.suspend, State.releasePath, State.setBank, State.bank, h]

/-- A bad word's report, made before the word. -/
theorem State.recordFaultIf_changes (s : State) (bad : Bool) {f : FaultRecord} (hf : f.repeats = 1) :
    Changes s (s.recordFaultIf bad f) := by
  cases bad
  · exact .refl s
  · exact s.recordFault_changes hf

/-- The state that waited is of the host unit, the channels and the strobe alone. -/
theorem State.clearWaiting_frame (s : State) (r : Record) :
    s.clearWaiting r = { s with
      host := (s.clearWaiting r).host, chans := (s.clearWaiting r).chans, strobe := (s.clearWaiting r).strobe } := by
  unfold State.clearWaiting
  split <;> rfl

theorem State.clearWaiting_mode (s : State) (r : Record) : (s.clearWaiting r).mode = s.mode := by rw [s.clearWaiting_frame r]

/-- In QUIESCING what follows a removal is the test for the end of the quiesce. -/
theorem State.afterRemoval_quiescing {s : State} (h : s.mode = .quiescing) : s.afterRemoval = s.quiesceTest := by
  rw [State.afterRemoval, if_neg fun hm => by simp [h] at hm]

section
variable {s : State} {a b : List Record} {r : Record} (hq : s.queue = a ++ r :: b) (active : r.state = .active)
  (transferring : (s.bank r.bank).state = .transferring)
include hq active transferring

/-- The removal of the record in flight in QUIESCING (R33, R94). -/
theorem State.quiesceRemove_changes (hm : s.mode = .quiescing) :
    Changes s ((s.endWord a.length r).quiesceRemove a.length (r.wordDone (s.wordBad r))) := by
  have reported := s.recordFaultIf_changes (s.wordBad r) (f := r.parityReport) rfl
  have left := s.endWord_leaves hq
  obtain ⟨faults, lost, events, hf⟩ := s.recordFaultIf_frame (s.wordBad r) r.parityReport
  rw [hf] at left reported
  have removed := reported.trans
    (Change.remove (s := { s with faults := faults, fltLost := lost, events := events }) a r b hq active transferring hm).chain
  refine Changes.choices ?_
  show Changes s (((((s.endWord a.length r).releasePath r.bank).removeAt a.length).clearWaiting r).afterRemoval)
  rw [left, State.afterRemoval_quiescing (by rw [State.clearWaiting_mode]; exact hm), State.clearWaiting_frame]
  exact removed.trans (State.quiesceTest_changes _)

/-- The completion of a record outside QUIESCING (R29 check 1, R89). -/
theorem State.complete_changes (hm : s.mode ≠ .quiescing) (last : r.count ≤ r.done + 1) :
    Changes s ((s.endWord a.length r).complete a.length (r.wordDone (s.wordBad r))) := by
  have reported := s.recordFaultIf_changes (s.wordBad r) (f := r.parityReport) rfl
  have left := s.endWord_leaves hq
  obtain ⟨faults, lost, events, hf⟩ := s.recordFaultIf_frame (s.wordBad r) r.parityReport
  rw [hf] at left reported
  have completed := reported.trans (Change.complete (s := { s with faults := faults, fltLost := lost, events := events }) a r b
    ((r.wordDone (s.wordBad r)).status == .error) hq active transferring hm last).chain
  refine Changes.choices ?_
  show Changes s
    ((((s.endWord a.length r).releasePath r.bank).removeAt a.length).completionEffects (r.wordDone (s.wordBad r))).afterRemoval
  rw [left]
  refine Changes.completion (by exact hm) completed

/-- The end of a word makes the changes of the word and of what ends its run or goes on with it. -/
theorem State.afterWord_changes : Changes s ((s.endWord a.length r).afterWord a.length (r.wordDone (s.wordBad r))) := by
  obtain ⟨hbanks, hmode, _, _, _, hqueue, _⟩ := s.endWord_keeps a.length r
  have hbank : (s.endWord a.length r).bank r.bank = s.bank r.bank := congrArg (PerBank.get · r.bank) hbanks
  unfold State.afterWord
  split
  · next hquiescing => exact State.quiesceRemove_changes hq active transferring (hmode ▸ hquiescing)
  · next hrunning =>
    split
    · next last => exact State.complete_changes hq active transferring (hmode ▸ hrunning) last
    · next more =>
      have moved := s.endWord_changes hq active (Nat.not_le.mp more)
      have queue : (s.endWord a.length r).queue = a ++ r.wordDone (s.wordBad r) :: b := by rw [hqueue, hq]; simp
      have transferring : ((s.endWord a.length r).bank r.bank).state = .transferring := by rw [hbank]; exact transferring
      have suspended := moved.trans (State.suspend_changes _ queue active transferring (Nat.le_add_left 1 r.done) hrunning)
      split
      · exact suspended
      · split
        · exact suspended
        · refine moved.trans (State.setBank_changes _ ?_)
          exact .counts _ transferring.symm rfl rfl (.inr ⟨rfl, rfl⟩) id (.inl rfl)

end

theorem State.wordEnd_changes (s : State) (isRmw : Bool) : Changes s (s.wordEnd isRmw) := by
  unfold State.wordEnd
  split
  · exact .refl s
  · next i r hflight =>
    split
    · next hword =>
      obtain ⟨hplace, active⟩ := State.inFlight_spec hflight
      obtain ⟨a, b, hq, rfl⟩ := exists_split_of_getElem? hplace
      exact State.afterWord_changes hq active hword.2
    · exact .refl s

end Sys2Proof.Machine
end

section
/-! The law of a record, taken apart. -/

namespace Sys2Proof.Machine

/-! ### The law of a record (R70, R71) -/

/-- What the state of a record says of its done count, source and kind (R71). -/
def Record.stateOk (r : Record) : Bool :=
  match r.state with
  | .staging => r.done == 0 && r.source == .host && r.kind == .write
  | .waiting => r.done == 0
  | .active => true
  | .resumable => decide (1 ≤ r.done)

/-- What the source of a record says of its ticks left, urgency, count and kind (R70). -/
def Record.sourceOk (r : Record) : Bool :=
  match r.source with
  | .host => r.ticksLeft.isNone && !r.urgent && decide (r.count ≤ 16)
  | .chan _ => (match r.ticksLeft with
    | none => false
    | some n => decide (n ≤ 3)) && r.kind != .byteWrite

/-- The law of a record, taken apart. -/
structure Record.Law (r : Record) : Prop where
  nonempty : 1 ≤ r.count
  short : r.count ≤ 32
  more : r.done < r.count
  state : r.stateOk = true
  source : r.sourceOk = true
  byte : (r.kind == .byteWrite) = r.byteWrite.isSome
  single : r.kind = .byteWrite → r.count = 1 ∧ r.order = .linear
  selected : r.selected = none ∨ r.state = .waiting ∨ r.state = .resumable

theorem Record.ok_eq (r : Record) :
    r.ok =
      (decide (1 ≤ r.count) && decide (r.count ≤ 32) && decide (r.done < r.count) && r.stateOk && r.sourceOk &&
        ((r.kind == .byteWrite) == r.byteWrite.isSome) && (r.kind != .byteWrite || (r.count == 1 && r.order == .linear)) &&
        (r.selected.isNone || r.state == .waiting || r.state == .resumable)) := rfl

theorem Record.ok_iff (r : Record) : r.ok = true ↔ r.Law := by
  have single : (r.kind != .byteWrite || (r.count == 1 && r.order == .linear)) = true ↔
      (r.kind = .byteWrite → r.count = 1 ∧ r.order = .linear) := by
    cases r.kind <;> simp
  have selected : (r.selected.isNone || r.state == .waiting || r.state == .resumable) = true ↔
      (r.selected = none ∨ r.state = .waiting ∨ r.state = .resumable) := by simp [or_assoc]
  rw [Record.ok_eq]
  simp only [Bool.and_eq_true, decide_eq_true_eq, single, selected, beq_iff_eq (a := r.kind == .byteWrite)]
  exact ⟨fun ⟨⟨⟨⟨⟨⟨⟨h1, h2⟩, h3⟩, h4⟩, h5⟩, h6⟩, h7⟩, h8⟩ => ⟨h1, h2, h3, h4, h5, h6, h7, h8⟩,
    fun ⟨h1, h2, h3, h4, h5, h6, h7, h8⟩ => ⟨⟨⟨⟨⟨⟨⟨h1, h2⟩, h3⟩, h4⟩, h5⟩, h6⟩, h7⟩, h8⟩⟩

/-- A host record is at most 16 words long. -/
theorem Record.Law.hostCount {r : Record} (h : r.Law) (hs : r.source = .host) : r.count ≤ 16 := by
  have := h.source
  simp only [Record.sourceOk, hs, Bool.and_eq_true, decide_eq_true_eq] at this
  exact this.2

/-- A record that waits has nothing done. -/
theorem Record.Law.waiting {r : Record} (h : r.Law) (hs : r.state = .waiting) : r.done = 0 := by
  simpa [Record.stateOk, hs] using h.state

/-- A STAGING record is a host write with nothing done. -/
theorem Record.Law.staging {r : Record} (h : r.Law) (hs : r.state = .staging) :
    r.done = 0 ∧ r.source = .host ∧ r.kind = .write := by
  simpa [Record.stateOk, hs, and_assoc] using h.state

theorem State.recordsOk_iff (s : State) : s.recordsOk = true ↔ ∀ r ∈ s.queue, r.Law := by
  simp only [State.recordsOk, List.all_eq_true, Record.ok_iff]

end Sys2Proof.Machine
end

section
/-! The law of the host buffers, taken apart, and the data port, which keeps it. -/

namespace Sys2Proof.Machine

/-! ### The Host Transfer Unit (R96, R100 to R107) -/

/-- Whether the write buffer is as a host write-kind record says (R104, R106, R107). -/
def HostUnit.Serves (h : HostUnit) (r : Record) : Prop :=
  if r.kind = .write then
    if r.state = .staging then h.writeOpen = some r.count ∧ h.writeBuf.length < r.count
    else h.writeOpen = none ∧ h.writeBuf.length = r.count
  else h.writeOpen = none ∧ h.writeBuf = []

/-- The law of the host buffers, taken apart. -/
structure State.HostLaw (s : State) : Prop where
  readRoom : s.host.readBuf.length ≤ 16
  writeRoom : s.host.writeBuf.length ≤ 16
  reads : ∀ r ∈ s.queue, r.isHostRead = true → s.host.readBuf.length = r.done
  writes : ∀ r ∈ s.queue, r.isHostWrite = true → s.host.Serves r
  closed : s.hwrPend = true ∨ (s.host.writeOpen = none ∧ s.host.writeBuf = [])
  latch : s.host.readLatch = none ∨ (s.hrdPend = false ∧ s.host.readBuf ≠ [])
  rdbad : s.host.rdbad = false ∨ (s.hrdPend = false ∧ s.host.readBuf ≠ [])

/-- The test of the write buffer by one record. -/
def HostUnit.serves (h : HostUnit) (r : Record) : Bool :=
  match r.kind, r.state with
  | .write, .staging => h.writeOpen == some r.count && decide (h.writeBuf.length < r.count)
  | .write, _ => h.writeOpen.isNone && h.writeBuf.length == r.count
  | _, _ => h.writeOpen.isNone && h.writeBuf.isEmpty

theorem HostUnit.serves_iff (h : HostUnit) (r : Record) : h.serves r = true ↔ h.Serves r := by
  unfold HostUnit.serves HostUnit.Serves
  cases r.kind <;> cases r.state <;> simp

theorem State.hostBuffers_eq (s : State) :
    s.hostBuffers =
      (decide (s.host.readBuf.length ≤ 16) && decide (s.host.writeBuf.length ≤ 16) &&
        (s.queue.all fun r => !r.isHostRead || s.host.readBuf.length == r.done) &&
        (s.queue.all fun r => !r.isHostWrite || s.host.serves r) &&
        (s.hwrPend || (s.host.writeOpen.isNone && s.host.writeBuf.isEmpty)) &&
        (s.host.readLatch.isNone || (s.readReleased && !s.host.readBuf.isEmpty)) &&
        (!s.host.rdbad || (s.readReleased && !s.host.readBuf.isEmpty))) := rfl

theorem State.hostBuffers_iff (s : State) : s.hostBuffers = true ↔ s.HostLaw := by
  rw [State.hostBuffers_eq]
  simp only [State.readReleased, Bool.and_eq_true, Bool.or_eq_true, List.all_eq_true, decide_eq_true_eq, Bool.not_eq_true',
    beq_iff_eq, HostUnit.serves_iff, Option.isNone_iff_eq_none, List.isEmpty_iff, List.isEmpty_eq_false_iff]
  constructor
  · rintro ⟨⟨⟨⟨⟨⟨h1, h2⟩, h3⟩, h4⟩, h5⟩, h6⟩, h7⟩
    exact ⟨h1, h2, fun r hr hread => (h3 r hr).resolve_left (by simp [hread]),
      fun r hr hwrite => (h4 r hr).resolve_left (by simp [hwrite]), h5, h6, h7⟩
  · rintro ⟨h1, h2, h3, h4, h5, h6, h7⟩
    refine ⟨⟨⟨⟨⟨⟨h1, h2⟩, fun r hr => ?_⟩, fun r hr => ?_⟩, h5⟩, h6⟩, h7⟩
    · exact (Bool.eq_false_or_eq_true _).symm.imp_right (h3 r hr)
    · exact (Bool.eq_false_or_eq_true _).symm.imp_right (h4 r hr)

/-- A write buffer that is open is open for a STAGING record, at most 16 words long. -/
theorem State.HostLaw.staged {s : State} (h : s.HostLaw) {n : Nat} (hn : s.host.writeOpen = some n) :
    (∀ r ∈ s.queue, r.isHostWrite = true → r.kind = .write ∧ r.state = .staging ∧ r.count = n ∧ s.host.writeBuf.length < n) ∧
      ∃ r ∈ s.queue, r.isHostWrite = true := by
  refine ⟨fun r hr hwrite => ?_, ?_⟩
  · have := h.writes r hr hwrite
    unfold HostUnit.Serves at this
    rw [hn] at this
    split at this
    · next hkind =>
      split at this
      · next hstate =>
        obtain ⟨hcount, hlen⟩ := this
        have hcount : r.count = n := (Option.some.inj hcount).symm
        exact ⟨hkind, hstate, hcount, hcount ▸ hlen⟩
      · cases this.1
    · cases this.1
  · rcases h.closed with hpend | ⟨hclosed, _⟩
    · simpa [State.hwrPend] using hpend
    · rw [hn] at hclosed; cases hclosed

/-! Each write and read of the data port keeps the law. -/

section
variable {s : State} (h : s.HostLaw)
include h

theorem State.HostLaw.latched (d : Data) (hr : s.readReleased = true) (hd : s.host.readBuf.head? = some d) :
    ({ s with host := { s.host with readLatch := some (highByte d) } } : State).HostLaw := by
  have nonempty : s.host.readBuf ≠ [] := by rintro he; simp [he] at hd
  have released : s.hrdPend = false := by simpa [State.readReleased] using hr
  exact ⟨h.readRoom, h.writeRoom, h.reads, h.writes, h.closed, .inr ⟨released, nonempty⟩, h.rdbad⟩

theorem State.HostLaw.read (hl : s.host.readLatch.isSome = true) :
    ({ s with
      host :=
        { s.host with
          readBuf := s.host.readBuf.tail, readLatch := none
          rdbad := s.host.rdbad && !s.host.readBuf.tail.isEmpty } } : State).HostLaw := by
  obtain ⟨released, _⟩ := h.latch.resolve_left (by simpa using Option.isSome_iff_ne_none.mp hl)
  have noReads : ∀ r ∈ s.queue, ¬r.isHostRead = true := by
    simpa [State.hrdPend] using released
  have room := h.readRoom
  refine ⟨?_, h.writeRoom, fun r hr hread => absurd hread (noReads r hr), h.writes, h.closed, .inl rfl, ?_⟩
  · show s.host.readBuf.tail.length ≤ 16
    rw [List.length_tail]; omega
  · cases ht : s.host.readBuf.tail with
    | nil => exact .inl (by simp)
    | cons w rest => exact .inr ⟨released, by simp⟩

/-- A word pushed on the write buffer that is not its last (R106). -/
theorem State.HostLaw.pushed (hrec : s.recordsOk = true) {n : Nat} {d : Data} (hn : s.host.writeOpen = some n)
    (hroom : ¬n ≤ s.host.writeBuf.length) (hlast : n ≠ (s.host.writeBuf ++ [d]).length) :
    ({ s with host := { s.host with writeBuf := s.host.writeBuf ++ [d], heldLow := none } } : State).HostLaw := by
  obtain ⟨hstaged, r, hr, hwrite⟩ := h.staged hn
  rw [List.length_append, List.length_singleton] at hlast
  obtain ⟨hkind, _, hcount, _⟩ := hstaged r hr hwrite
  have hsource : r.source = .host := by
    simp only [Record.isHostWrite, Bool.and_eq_true, beq_iff_eq] at hwrite
    exact hwrite.1
  have hshort := ((s.recordsOk_iff.mp hrec) r hr).hostCount hsource
  refine ⟨h.readRoom, ?_, h.reads, fun q hq hqw => ?_, .inl ?_, h.latch, h.rdbad⟩
  · show (s.host.writeBuf ++ [d]).length ≤ 16
    rw [List.length_append, List.length_singleton]; omega
  · obtain ⟨hqkind, hqstate, hqcount, hlen⟩ := hstaged q hq hqw
    rw [HostUnit.Serves, if_pos hqkind, if_pos hqstate]
    refine ⟨by rw [hqcount]; exact hn, ?_⟩
    show (s.host.writeBuf ++ [d]).length < q.count
    rw [List.length_append, List.length_singleton]; omega
  · exact List.any_eq_true.mpr ⟨r, hr, hwrite⟩

end

/-- A change of the host unit that keeps its law. -/
theorem State.host_changes (s : State) {u : HostUnit}
    (h : s.recordsOk = true → s.HostLaw → ({ s with host := u } : State).HostLaw) : Changes s { s with host := u } :=
  (Change.host u fun hrec hb => (State.hostBuffers_iff _).mpr (h hrec (s.hostBuffers_iff.mp hb))).chain

end Sys2Proof.Machine
end

section
/-! The commands of host, channels and modes as chains of changes. -/

namespace Sys2Proof.Machine

/-! ### The rows -/

theorem Changes.of_next {s u t : State} (h : Changes s u) (e : (.next u : Host.Outcome State Fault Refusal) = .next t) : Changes s t :=
  Host.Outcome.next.inj e ▸ h

section
variable {s t : State}

theorem execBringup_changes (h : execBringup s = .next t) : Changes s t := by
  refine .of_next ?_ h
  refine s.command_changes fun hr hm _ => ?_
  exact (Change.bringup (s := s.withResult .ok) hr (List.mem_singleton.mp hm)).chain.trans (.outside rfl rfl rfl rfl rfl)

theorem execHold_changes (h : execHold s = .next t) : Changes s t := by
  refine .of_next ?_ h
  refine s.command_changes fun _ hm hc => ?_
  obtain ⟨hchans, hc⟩ := firstFailure_cons_none.mp hc
  obtain ⟨hpaused, _⟩ := firstFailure_cons_none.mp hc
  have quiet : ∀ c, (s.chan c).busy = false ∧ s.outstanding c = 0 := by
    intro c
    have := List.any_eq_false.mp hchans c (by cases c <;> simp [Chan.all])
    simpa using this
  have active : ∀ b, (s.bank b).paused = false := by
    intro b
    have := List.any_eq_false.mp hpaused b (by cases b <;> simp [Bank.all])
    simpa using this
  refine Changes.choices ?_
  rw [State.afterRemoval_eq (by simp)]
  refine (Change.hold (s := s.withResult .ok) (List.mem_singleton.mp hm) quiet active).chain.of_eq ?_
  simp [State.actionAfter]

theorem execWake_changes (h : execWake s = .next t) : Changes s t := by
  refine .of_next ?_ h
  refine s.command_changes fun _ hm _ => ?_
  exact (Change.wake (s := s.withResult .ok) (List.mem_singleton.mp hm)).chain.trans (.outside rfl rfl rfl rfl rfl)

theorem State.resetChan_frame (s : State) (c : Chan) :
    s.resetChan c = { s with chans := (s.resetChan c).chans, strobe := (s.resetChan c).strobe } := by
  unfold State.resetChan
  cases s.chanInFlight c <;> rfl

/-- What TRAFFIC_RESET clears at once (R173). -/
theorem State.clearTraffic_frame (s : State) :
    s.clearTraffic = { s with
      mode := .quiescing, prechargeAll := true, queue := s.queue.filter (·.state == .active), host := s.resetHost
      chans := s.clearTraffic.chans, strobe := s.clearTraffic.strobe, lanePtr := .c0 } := by
  unfold State.clearTraffic
  simp only
  rw [State.resetChan_frame (State.resetChan _ _), State.resetChan_frame (s.resetChan .c0), State.resetChan_frame s]

theorem execTrafficReset_changes (h : execTrafficReset s = .next t) : Changes s t := by
  refine .of_next ?_ h
  refine s.command_changes fun _ hm _ => ?_
  have cleared := (Change.quiesce (s := s.withResult .ok) (List.mem_singleton.mp hm)).chain.of_eq (State.clearTraffic_frame _)
  exact (cleared.trans (State.quiesceTest_changes _)).choices

/-- A host record that passes the checks of R98 is a lawful one. -/
theorem State.transferRecord_ok (h : s.TransferInRange) {k : Kind} {st : RecState}
    (hk : (k, st) = (.read, .waiting) ∨ (k, st) = (.write, .staging)) :
    (s.regs.transferRecord k st).ok = true := by
  obtain ⟨_, hpos, hshort, _⟩ := h
  rw [Record.ok_iff]
  rcases hk with ⟨⟨⟩⟩ | ⟨⟨⟩⟩
  all_goals exact ⟨hpos, hshort.trans (by decide), hpos, rfl, decide_eq_true hshort, rfl, nofun, .inl rfl⟩

/-- What a host transfer command's checks pass (R98). -/
theorem State.hostChecks_none {s : State} {busy range : Bool}
    (h : firstFailure [(busy, .busy), (range, .range), (s.queueFull, .full)] = none) :
    busy = false ∧ range = false ∧ s.queue.length < 8 := by
  obtain ⟨hbusy, h⟩ := firstFailure_cons_none.mp h
  obtain ⟨hrange, h⟩ := firstFailure_cons_none.mp h
  obtain ⟨hfull, _⟩ := firstFailure_cons_none.mp h
  exact ⟨hbusy, hrange, by simpa [State.queueFull] using hfull⟩

theorem State.inRange_of_not_fails (h : s.hostRangeFails = false) : s.TransferInRange := by
  by_contra hn
  rw [s.hostRangeFails_iff.mpr hn] at h
  cases h

theorem execHostRead_changes (h : execHostRead s = .next t) : Changes s t := by
  refine .of_next ?_ h
  refine s.command_changes fun _ hm hc => ?_
  obtain ⟨hbusy, hrange, room⟩ := State.hostChecks_none hc
  rw [Bool.or_eq_false_iff] at hbusy
  have empty : s.host.readBuf = [] := by simpa using hbusy.2
  have ok := State.transferRecord_ok (State.inRange_of_not_fails hrange) (.inl rfl)
  exact Changes.trans (Change.joinRead (s := s.withResult .ok) (List.mem_singleton.mp hm) room hbusy.1 empty ok).chain
    (State.reconsider_changes _ _)

theorem execHostWrite_changes (h : execHostWrite s = .next t) : Changes s t := by
  refine .of_next ?_ h
  refine s.command_changes fun _ hm hc => ?_
  obtain ⟨hbusy, hrange, room⟩ := State.hostChecks_none hc
  have ok := State.transferRecord_ok (State.inRange_of_not_fails hrange) (.inr rfl)
  exact (Change.joinWrite (s := s.withResult .ok) (List.mem_singleton.mp hm) room hbusy ok).chain

theorem execHostWriteByte_changes (h : execHostWriteByte s = .next t) : Changes s t := by
  refine .of_next ?_ h
  refine s.command_changes fun _ hm hc => ?_
  obtain ⟨hbusy, _, room⟩ := State.hostChecks_none hc
  exact Changes.trans (Change.joinByte (s := s.withResult .ok) (List.mem_singleton.mp hm) room hbusy).chain
    (State.reconsider_changes _ _)

theorem execHostCancel_changes (h : execHostCancel s = .next t) : Changes s t := by
  refine .of_next ?_ h
  refine s.command_changes fun _ hm _ => ?_
  have mode : (s.withResult .ok).withdrawHost.mode ≠ .quiescing := by
    show s.mode ≠ .quiescing
    rintro hq
    simp [hq] at hm
  refine Changes.choices ?_
  rw [State.afterRemoval_eq mode]
  exact (Change.cancel (s := s.withResult .ok)).chain

theorem execChStart_changes (h : execChStart s = .next t) : Changes s t := by
  refine .of_next ?_ h
  refine s.command_changes fun _ hm hc => ?_
  obtain ⟨c, hchan, hc⟩ := State.checkChan_none hc
  obtain ⟨hbusy, hc⟩ := firstFailure_cons_none.mp hc
  obtain ⟨hrange, _⟩ := firstFailure_cons_none.mp hc
  rw [Bool.or_eq_false_iff] at hbusy
  have none : s.outstanding c = 0 := by simpa using hbusy.2
  rw [State.onChan_eq (s := s.withResult .ok) hchan]
  exact (Change.start (s := s.withResult .ok) c (List.mem_singleton.mp hm) none hrange).chain

theorem execChStop_changes (h : execChStop s = .next t) : Changes s t := by
  refine .of_next ?_ h
  refine s.command_changes fun _ _ hc => ?_
  obtain ⟨c, hchan, hc⟩ := State.checkChan_none hc
  obtain ⟨_, hc⟩ := firstFailure_cons_none.mp hc
  obtain ⟨hrunning, _⟩ := firstFailure_cons_none.mp hc
  have busy : (s.chan c).busy = true := by simp [Channel.busy, bne_eq_false_iff_eq.mp hrunning]
  rw [State.onChan_eq (s := s.withResult .ok) hchan]
  exact State.stopChan_changes (s.withResult .ok) busy

theorem execChAbort_changes (h : execChAbort s = .next t) : Changes s t := by
  refine .of_next ?_ h
  refine s.command_changes fun _ _ hc => ?_
  obtain ⟨c, hchan, hc⟩ := State.checkChan_none hc
  obtain ⟨hbusy, _⟩ := firstFailure_cons_none.mp hc
  have busy : (s.chan c).busy = true := by simpa using hbusy
  rw [State.onChan_eq (s := s.withResult .ok) hchan]
  have withdrawn := (Change.withdraw (s := s.withResult .ok) c busy).chain
  refine (withdrawn.trans (State.stopChan_changes _ ?_)).choices
  rw [State.withdrawChan_frame]
  show (((s.chans.set c _).get c).busy) = true
  rw [PerChan.get_set_same]
  exact busy

end
end Sys2Proof.Machine
end

section
/-! The commands of the Refresh Engine and the lists, and the register window, as chains of changes. -/

namespace Sys2Proof.Machine

section
variable {s t : State}

/-! #### The Refresh Engine, the Weak Row List and the fault list -/

/-- The entry that WEAK_ADD adds has missed nothing. -/
theorem State.weakOperand_misses {e : WeakEntry} (h : s.weakOperand = some e) : e.misses = 0 := by
  unfold State.weakOperand at h
  split at h
  · split at h
    · cases h; rfl
    · cases h
  · cases h

theorem execWeakAdd_changes (h : execWeakAdd s = .next t) : Changes s t := by
  refine .of_next ?_ h
  refine s.command_changes fun _ _ hc => ?_
  cases hop : s.weakOperand with
  | none => simp [hop] at hc
  | some e =>
    simp only [hop] at hc
    obtain ⟨hnew, hc⟩ := firstFailure_cons_none.mp hc
    obtain ⟨hroom, _⟩ := firstFailure_cons_none.mp hc
    have operand : (s.withResult .ok).weakOperand = some e := hop
    simp only [operand]
    refine Changes.weakList (s := s.withResult .ok) _ s.events fun hw => ?_
    rw [State.weakLimits_iff] at hw ⊢
    obtain ⟨hlen, hsorted, hmisses⟩ := hw
    have perm := insertWeak_perm e s.weak
    refine ⟨?_, insertWeak_pairwise hsorted ?_, fun f hf => ?_⟩
    · show (insertWeak e s.weak).length ≤ 16
      rw [perm.length_eq, List.length_cons]
      simpa using hroom
    · have new : ∀ f ∈ s.weak, ¬(f.bank = e.bank ∧ f.row.toNat = e.row.toNat) := by simpa [State.weakHolds] using hnew
      exact new
    · rcases List.mem_cons.mp (perm.mem_iff.mp hf) with rfl | hf
      · rw [State.weakOperand_misses hop]; exact Nat.zero_le 15
      · exact hmisses f hf

theorem execWeakRemove_changes (h : execWeakRemove s = .next t) : Changes s t := by
  refine .of_next ?_ h
  exact s.command_changes fun _ _ _ =>
    Changes.weakList (s := s.withResult .ok) _ s.events (State.weakLimits_sublist List.filter_sublist)

theorem execWeakClear_changes (h : execWeakClear s = .next t) : Changes s t := by
  refine .of_next ?_ h
  exact s.command_changes fun _ _ _ =>
    Changes.weakList (s := s.withResult .ok) [] s.events (State.weakLimits_sublist (List.nil_sublist _))

theorem execBankPause_changes (h : execBankPause s = .next t) : Changes s t := by
  refine .of_next ?_ h
  refine s.command_changes fun _ hm hc => ?_
  obtain ⟨b, hb, _⟩ := State.checkBank_none hc
  rw [State.onBank_eq (s := s.withResult .ok) hb]
  refine State.setBank_changes _ ?_
  exact .counts _ rfl rfl rfl (.inr ⟨rfl, rfl⟩) id (.inr (List.mem_singleton.mp hm))

theorem execBankResume_changes (h : execBankResume s = .next t) : Changes s t := by
  refine .of_next ?_ h
  refine s.command_changes fun _ hm hc => ?_
  obtain ⟨b, hb, _⟩ := State.checkBank_none hc
  rw [State.onBank_eq (s := s.withResult .ok) hb]
  refine Changes.trans (State.setBank_changes _ ?_) (State.reconsider_changes _ b)
  exact .counts _ rfl rfl rfl (.inr ⟨rfl, rfl⟩) id (.inr (List.mem_singleton.mp hm))

theorem execClearLost_changes (h : execClearLost s = .next t) : Changes s t := by
  refine .of_next ?_ h
  refine s.command_changes fun _ _ hc => ?_
  obtain ⟨b, hb, _⟩ := State.checkBank_none hc
  rw [State.onBank_eq (s := s.withResult .ok) hb]
  refine State.setBank_changes _ ?_
  exact .counts _ rfl rfl rfl (.inr ⟨rfl, rfl⟩) id (.inl rfl)

/-- The fault list with its limits after records have left it, or FLTLOST fallen. -/
theorem State.faultLimits_sublist {s t : State} (ht : t.faults.Sublist s.faults) (hlost : t.fltLost ≤ s.fltLost)
    (h : s.faultLimits = true) : t.faultLimits = true := by
  rw [State.faultLimits_iff] at h ⊢
  obtain ⟨hlen, hdistinct, hrepeats, hl⟩ := h
  exact ⟨ht.length_le.trans hlen, hdistinct.sublist ht, fun f hf => hrepeats f (ht.subset hf), hlost.trans hl⟩

/-- Fault records leave the list, or FLTLOST falls. -/
theorem Changes.faultList {faults : List FaultRecord} {lost : Nat} (view : Option FaultRecord) (hfaults : faults.Sublist s.faults)
    (hlost : lost ≤ s.fltLost) : Changes s { s with faults := faults, fltLost := lost, faultView := view } :=
  Change.chain (.aside { s with faults := faults, fltLost := lost, faultView := view } rfl
    (State.faultLimits_sublist hfaults hlost) id id)

theorem execFaultPop_changes (h : execFaultPop s = .next t) : Changes s t := by
  refine .of_next ?_ h
  exact s.command_changes fun _ _ _ => Changes.faultList (s := s.withResult .ok) _ (List.tail_sublist _) (le_refl _)

theorem execFltlostWrite_changes {v : Byte} (h : execFltlostWrite v s = .next t) : Changes s t := by
  refine .of_next ?_ h
  exact s.outOfReset_changes fun _ => Changes.faultList (s := s) _ (.refl _) (Nat.zero_le _)

theorem execUnknownCommand_changes {code : Byte} (h : execUnknownCommand code s = .next t) : Changes s t := by
  unfold execUnknownCommand at h
  split at h
  · cases h
  · exact .of_next (s.outOfReset_changes fun _ => s.refuse_changes _) h

/-! #### The data port and the register window -/

/-- A read row: its effect, and what D[7:0] carries. -/
theorem State.readCycle_changes (s : State) (addr : BitVec 5) {effect : State → State} (h : Changes s (effect s)) :
    Changes s (s.readCycle addr effect) :=
  (s.outOfReset_changes fun _ => h).trans (.outside rfl rfl rfl rfl rfl)

theorem execDatalRead_changes (h : execDatalRead s = .next t) : Changes s t := by
  refine .of_next ?_ h
  refine s.readCycle_changes _ ?_
  split
  · next hr hd => exact s.host_changes fun _ hl => hl.latched _ hr hd
  · exact s.raise_changes _

theorem execDatahRead_changes (h : execDatahRead s = .next t) : Changes s t := by
  refine .of_next ?_ h
  refine s.readCycle_changes _ ?_
  split
  · next hlatch => exact s.host_changes fun _ hl => hl.read hlatch
  · exact s.raise_changes _

/-- The held low byte is no part of the buffers' law. -/
theorem State.heldLow_changes (s : State) (v : Option Byte) : Changes s { s with host := { s.host with heldLow := v } } :=
  (Change.host { s.host with heldLow := v } fun _ h => h).chain

theorem execDatalWrite_changes {v : Byte} (h : execDatalWrite v s = .next t) : Changes s t := by
  refine .of_next ?_ h
  exact s.outOfReset_changes fun _ => s.heldLow_changes _

theorem execDatahWrite_changes {v : Byte} (h : execDatahWrite v s = .next t) : Changes s t := by
  refine .of_next ?_ h
  refine s.outOfReset_changes fun _ => ?_
  split
  · exact (s.heldLow_changes none).raise _
  · next n hn =>
    split
    · exact (s.heldLow_changes none).raise _
    · next hroom =>
      simp only
      split
      · next hlast => exact (Change.stage n _ hn hlast).chain.choices
      · next hlast => exact s.host_changes fun hrec hl => hl.pushed hrec hn hroom hlast

theorem execTdataRead_changes (h : execTdataRead s = .next t) : Changes s t := by
  refine .of_next ?_ h
  exact s.readCycle_changes _ (.outside rfl rfl rfl rfl rfl)

theorem State.storeTiming_frame (s : State) (i : Nat) (v : Byte) :
    s.storeTiming i v = { s with
      timing := (s.storeTiming i v).timing, banks := (s.storeTiming i v).banks, weak := (s.storeTiming i v).weak } := by
  unfold State.storeTiming
  simp only
  split
  · rfl
  · split <;> rfl

theorem execTdataWrite_changes {v : Byte} (h : execTdataWrite v s = .next t) : Changes s t := by
  refine .of_next ?_ h
  refine s.outOfReset_changes fun _ => ?_
  refine Changes.trans (t := if s.tableWritable then s.storeTable v else s.raise .tblRef) ?_ (.outside rfl rfl rfl rfl rfl)
  split
  · next hwritable =>
    simp only [State.tableWritable, Bool.and_eq_true] at hwritable
    obtain ⟨_, hwritable⟩ := hwritable
    unfold State.storeTable
    split
    · next ht =>
      rw [ht] at hwritable
      exact (Change.timing _ v (by simpa using hwritable)).chain.of_eq (State.storeTiming_frame ..)
    · next c ht =>
      rw [ht] at hwritable
      simp only [Bool.and_eq_true, Bool.or_eq_true, beq_iff_eq] at hwritable
      exact (Change.desc c _ v hwritable.1 hwritable.2).chain
    · exact .refl s
  · exact s.raise_changes _

theorem execRegisterWrite_changes {addr : BitVec 5} {v : Byte} (h : execRegisterWrite addr v s = .next t) : Changes s t := by
  unfold execRegisterWrite at h
  split at h
  · cases h
  · refine .of_next (s.outOfReset_changes fun _ => ?_) h
    unfold State.storeRegister
    split <;> exact .outside rfl rfl rfl rfl rfl

end
end Sys2Proof.Machine
end

section
/-! Resets, pins, counters, operations and the lane as chains of changes; every row and every step is one. -/

namespace Sys2Proof.Machine

section
variable {s t : State}

/-! #### Resets and pins -/

theorem execPinReset_changes (h : execPinReset s = .next t) : Changes s t := by
  refine .of_next ?_ h
  exact (Change.reset (s := s) s.store.loseAll s.por s.pin true s.heldPor fun _ => Store.loseAll_wf _).chain

theorem execPowerOnReset_changes (h : execPowerOnReset s = .next t) : Changes s t := by
  refine .of_next ?_ h
  exact (Change.reset (s := s) s.store.loseAll s.por s.pin s.heldPin true fun _ => Store.loseAll_wf _).chain

theorem execResetEnd_changes {last : ResetKind} (h : execResetEnd last s = .next t) : Changes s t := by
  refine .of_next ?_ h
  split
  · split
    · exact (Change.reset (s := s) s.store _ _ false false id).chain
    · exact .refl s
  · split
    · exact (Change.reset (s := s) s.store _ _ false false id).chain
    · exact .refl s

theorem execHwakeFallingEdge_changes (h : execHwakeFallingEdge s = .next t) : Changes s t := by
  refine .of_next ?_ h
  refine s.outOfReset_changes fun _ => ?_
  have fallen : Changes s (State.raise { s with hwakeHigh := false } .wakePin) := .outside rfl rfl rfl rfl rfl
  show Changes s (State.fallHwake { s with hwakeHigh := true })
  unfold State.fallHwake
  simp only
  split
  · next hmode =>
    exact (fallen.trans (Change.wake (s := State.raise { s with hwakeHigh := false } .wakePin) hmode).chain).trans
      (.outside rfl rfl rfl rfl rfl)
  · exact fallen

/-- The lane pins and the request of a channel change. -/
theorem State.request_changes (s : State) (c : Chan) (request : LaneRequest) (lreq : Bool) :
    Changes s (s.setChan c { s.chan c with request := request, lreq := lreq }) :=
  s.setChan_changes ⟨rfl, rfl, rfl, rfl, id, id, .inl rfl⟩

theorem execLreqAsserted_changes {c : Chan} (h : execLreqAsserted c s = .next t) : Changes s t := by
  refine .of_next ?_ h
  refine (s.request_changes c (s.chan c).request true).trans (State.outOfReset_changes _ fun _ => ?_)
  simp only
  split
  · exact Changes.raiseIf (Changes.raiseIf (State.request_changes _ c .pending _) _ _) _ _
  · exact .refl _

theorem execLreqWithdrawn_changes {c : Chan} (h : execLreqWithdrawn c s = .next t) : Changes s t := by
  refine .of_next ?_ h
  refine (s.request_changes c (s.chan c).request false).trans (State.outOfReset_changes _ fun _ => ?_)
  split
  · exact .refl _
  · exact State.request_changes _ c .quiet _

theorem execLsyncRisingEdge_changes {c : Chan} (h : execLsyncRisingEdge c s = .next t) : Changes s t := by
  refine .of_next ?_ h
  refine s.outOfReset_changes fun _ => ?_
  have lsync (u : State) (high : Bool) : Changes u (u.setChan c { u.chan c with lsyncHigh := high }) :=
    u.setChan_changes ⟨rfl, rfl, rfl, rfl, id, id, .inl rfl⟩
  have rises (u : State) : Changes u (u.riseLsync c) := by
    unfold State.riseLsync
    simp only
    split
    · exact ((lsync u true).trans (State.sourceEvent_changes _ c)).choices
    · exact lsync u true
  have sample (u : State) (high : Bool) : Changes u (u.sampleLsync c high) := by
    unfold State.sampleLsync
    simp only
    split
    · exact lsync u false
    · split
      · exact .refl u
      · exact rises u
  exact (sample s false).trans (sample _ true)

/-! #### Counters and operations -/

theorem execTick_changes {tk : RefreshTick} (h : execTick tk s = .next t) : Changes s t := by
  refine .of_next ?_ h
  refine s.outOfReset_changes fun _ => ?_
  split
  · simp only
    have start : Changes s { s with tickCount := 0 } := .outside rfl rfl rfl rfl rfl
    refine ((start.trans ?_).trans (State.refreshEvents_changes _ _)).choices
    split
    · exact State.countSettle_changes _
    · exact State.raiseDebts_changes _
  · exact .refl s

theorem execWarmupStart_changes (h : execWarmupStart s = .next t) : Changes s t := by
  refine .of_next ?_ h
  refine s.outOfReset_changes fun _ => ?_
  split
  · next hm => exact s.startWarmup_changes hm
  · exact .refl s

theorem execWakeSettleEnd_changes (h : execWakeSettleEnd s = .next t) : Changes s t := by
  refine .of_next ?_ h
  refine s.outOfReset_changes fun _ => ?_
  split
  · next hm => exact (s.finishWake_changes hm).choices
  · exact .refl s

theorem execPeriodTick_changes {p : PeriodTick} (h : execPeriodTick p s = .next t) : Changes s t := by
  refine .of_next ?_ h
  refine s.outOfReset_changes fun _ => ?_
  simp only
  split
  · exact ((s.period_changes p.chan 0).trans (State.periodSteps_changes _ p.chan)).choices
  · exact .refl s

theorem execOpenLimitExpiry_changes {b : Bank} (h : execOpenLimitExpiry b s = .next t) : Changes s t := by
  refine .of_next ?_ h
  refine s.outOfReset_changes fun _ => ?_
  simp only
  split
  · next hopen =>
    refine Changes.trans (State.setBank_changes _ ?_) (State.reconsider_changes _ b)
    refine .counts _ rfl rfl rfl (.inl ?_) id (.inl rfl)
    rcases hopen.1 with hstate | hstate <;> rw [hstate] <;> rfl
  · exact .refl s

/-- What follows the end of an operation. -/
theorem Changes.afterOperation (h : Changes s t) (b : Bank) : Changes s (t.afterOperation b) :=
  (h.trans t.quiesceTest_changes).trans (State.reconsider_changes _ b)

theorem execActivationEnd_changes {b : Bank} (h : execActivationEnd b s = .next t) : Changes s t := by
  refine .of_next ?_ h
  refine s.outOfReset_changes fun _ => ?_
  simp only
  split
  · next row hstate => exact Changes.afterOperation (s.setBank_changes (.opens row hstate)) b
  · exact .refl s

theorem execPrechargeEnd_changes {b : Bank} (h : execPrechargeEnd b s = .next t) : Changes s t := by
  refine .of_next ?_ h
  refine s.outOfReset_changes fun _ => ?_
  simp only
  split
  · next hstate => exact Changes.afterOperation (s.setBank_changes (.closes hstate)) b
  · exact .refl s

theorem State.reportRegular_changes (s : State) (b : Bank) (row : Row) (p : Bool) : Changes s (s.reportRegular b row p) := by
  rw [s.reportRegular_frame]
  exact Changes.weakList _ _ (State.weakLimits_map rfl fun e => e.afterRefresh_keeps b row p)

theorem State.reportSpot_changes (s : State) (b : Bank) (row : Row) : Changes s (s.reportSpot b row) := by
  refine Changes.weakList _ s.events (State.weakLimits_map rfl fun e => ?_)
  split <;> exact ⟨rfl, rfl, id⟩

theorem execRegularRefreshEnd_changes {b : Bank} (h : execRegularRefreshEnd b s = .next t) : Changes s t := by
  refine .of_next ?_ h
  refine s.outOfReset_changes fun _ => ?_
  simp only
  split
  · next row hstate =>
    refine Changes.afterOperation (Changes.trans (State.setBank_changes _ ?_) (State.reportRegular_changes _ b row _)) b
    exact .passes _ (by rw [hstate]; exact .refreshed _ _) rfl (Nat.sub_le ..) rfl
  · exact .refl s

theorem execSpotRefreshEnd_changes {b : Bank} (h : execSpotRefreshEnd b s = .next t) : Changes s t := by
  refine .of_next ?_ h
  refine s.outOfReset_changes fun _ => ?_
  simp only
  split
  · next row hstate =>
    refine Changes.afterOperation (Changes.trans (s.enter_changes ?_) (State.reportSpot_changes _ b row)) b
    rw [hstate]; exact .refreshed _ _
  · exact .refl s

theorem State.warmupTest_changes (s : State) : Changes s s.warmupTest := by
  unfold State.warmupTest
  split
  · next htest => exact (Changes.raise (Change.warmedUp htest.1 htest.2).chain .modeDone).choices
  · exact .refl s

theorem execWarmupRefreshEnd_changes {b : Bank} (h : execWarmupRefreshEnd b s = .next t) : Changes s t := by
  refine .of_next ?_ h
  refine s.outOfReset_changes fun _ => ?_
  simp only
  split
  · next hstate =>
    split
    · refine s.setBank_changes ?_
      exact .passes _ (by rw [hstate]; exact .warmsOn) rfl (le_refl _) rfl
    · refine Changes.trans (State.setBank_changes _ ?_) (State.warmupTest_changes _)
      exact .passes _ (by rw [hstate]; exact .warmed) rfl (le_refl _) rfl
  · exact .refl s

/-! #### The lane -/

theorem execLaneGrant_changes (h : execLaneGrant s = .next t) : Changes s t := by
  refine .of_next ?_ h
  refine s.outOfReset_changes fun _ => ?_
  split
  · next c _ hc =>
    have servable : (s.chan c).servable = true := List.find?_some (p := fun c => (s.chan c).servable) hc
    have moved : Changes s { s with lanePtr := c.next } := .outside rfl rfl rfl rfl rfl
    unfold State.laneServe
    simp only
    split
    · next hdir => exact moved.trans (Change.deposit (s := { s with lanePtr := c.next }) c hdir servable).chain
    · exact moved
    · next w rest hdir hfifo => exact moved.trans (Change.fetch (s := { s with lanePtr := c.next }) c w rest hdir hfifo).chain
  · exact .refl s

theorem State.endStrobe_changes (s : State) (c : Chan) : Changes s (s.endStrobe c) :=
  (s.request_changes c .quiet (s.chan c).lreq).trans (Change.released).chain

theorem execFetchStrobeEnd_changes (h : execFetchStrobeEnd s = .next t) : Changes s t := by
  refine .of_next ?_ h
  refine s.outOfReset_changes fun _ => ?_
  split
  · exact s.endStrobe_changes _
  · exact .refl s

theorem execDepositStrobeEnd_changes {ld : Data} (h : execDepositStrobeEnd ld s = .next t) : Changes s t := by
  refine .of_next ?_ h
  refine s.outOfReset_changes fun _ => ?_
  split
  · next c flushed hstrobe =>
    cases flushed with
    | true => exact s.endStrobe_changes c
    | false => exact (Change.captured c ld hstrobe).chain.trans (State.endStrobe_changes _ c)
  · exact .refl s

end

/-- Every row makes a chain of changes. -/
theorem exec_changes {i : Instr} {s t : State} (h : exec i s = .next t) : Changes s t := by
  cases i with
  | bringup => exact execBringup_changes h
  | hold => exact execHold_changes h
  | wake => exact execWake_changes h
  | trafficReset => exact execTrafficReset_changes h
  | hostRead => exact execHostRead_changes h
  | hostWrite => exact execHostWrite_changes h
  | hostWriteByte => exact execHostWriteByte_changes h
  | hostCancel => exact execHostCancel_changes h
  | chStart => exact execChStart_changes h
  | chStop => exact execChStop_changes h
  | chAbort => exact execChAbort_changes h
  | weakAdd => exact execWeakAdd_changes h
  | weakRemove => exact execWeakRemove_changes h
  | weakClear => exact execWeakClear_changes h
  | bankPause => exact execBankPause_changes h
  | bankResume => exact execBankResume_changes h
  | clearLost => exact execClearLost_changes h
  | faultPop => exact execFaultPop_changes h
  | unknownCommand code => exact execUnknownCommand_changes h
  | datalRead => exact execDatalRead_changes h
  | datahRead => exact execDatahRead_changes h
  | datalWrite v => exact execDatalWrite_changes h
  | datahWrite v => exact execDatahWrite_changes h
  | tdataRead => exact execTdataRead_changes h
  | tdataWrite v => exact execTdataWrite_changes h
  | tselWrite v => exact .of_next (s.outOfReset_changes fun _ => .outside rfl rfl rfl rfl rfl) h
  | eventRegisterWrite reg v => exact .of_next (s.outOfReset_changes fun _ => .outside rfl rfl rfl rfl rfl) h
  | fltlostWrite v => exact execFltlostWrite_changes (v := v) h
  | causeWrite v => exact .of_next (s.outOfReset_changes fun _ => .outside rfl rfl rfl rfl rfl) h
  | registerWrite addr v => exact execRegisterWrite_changes h
  | pinReset => exact execPinReset_changes h
  | powerOnReset => exact execPowerOnReset_changes h
  | resetEnd last => exact execResetEnd_changes h
  | hwakeFallingEdge => exact execHwakeFallingEdge_changes h
  | lreqAsserted c => exact execLreqAsserted_changes h
  | lreqWithdrawn c => exact execLreqWithdrawn_changes h
  | lsyncRisingEdge c => exact execLsyncRisingEdge_changes h
  | tick tk => exact execTick_changes h
  | warmupStart => exact execWarmupStart_changes h
  | wakeSettleEnd => exact execWakeSettleEnd_changes h
  | periodTick p => exact execPeriodTick_changes h
  | openLimitExpiry b => exact execOpenLimitExpiry_changes h
  | activationEnd b => exact execActivationEnd_changes h
  | prechargeEnd b => exact execPrechargeEnd_changes h
  | regularRefreshEnd b => exact execRegularRefreshEnd_changes h
  | spotRefreshEnd b => exact execSpotRefreshEnd_changes h
  | warmupRefreshEnd b => exact execWarmupRefreshEnd_changes h
  | wordTransferEnd => exact .of_next (s.outOfReset_changes fun _ => s.wordEnd_changes false) h
  | rmwWordEnd => exact .of_next (s.outOfReset_changes fun _ => s.wordEnd_changes true) h
  | dataPathGrant => exact .of_next (s.outOfReset_changes fun _ => s.grant_changes) h
  | laneGrant => exact execLaneGrant_changes h
  | fetchStrobeEnd => exact execFetchStrobeEnd_changes h
  | depositStrobeEnd ld => exact execDepositStrobeEnd_changes h

/-- One store clock moves counters of lanes and channels, and items outside the core. -/
theorem State.storeClock_changes (s : State) : Changes s s.storeClock := by
  have lanes : Changes s { s with banks := s.banks.map fun _ l => l.clocked } := by
    refine (Change.lanes _ fun b => ?_).chain
    rw [PerBank.get_map]
    have stopped : (s.bank b).state.holdsRow = true ∨ (s.bank b).clocked.line.expired = (s.bank b).line.expired ∧
        (s.bank b).clocked.line.timer.isNone = (s.bank b).line.timer.isNone := by
      cases hstate : (s.bank b).state <;> simp [BankState.holdsRow, BankLane.clocked, BankState.countsOpen, hstate]
    exact .counts _ rfl rfl rfl stopped id (.inl rfl)
  refine (lanes.trans (Change.chans (s.chans.map fun c x => x.clocked (Config.lsyncLevel (s.clocks + 1) c)) fun c => ?_).chain).trans
    (.outside rfl rfl rfl rfl rfl)
  rw [PerChan.get_map]
  exact ⟨rfl, rfl, rfl, rfl, id, id, .inl rfl⟩

/-- Every step makes a chain of changes. -/
theorem step_changes {s t : State} (h : step s = .next t) : Changes s t := by
  unfold step at h
  split at h
  · refine .of_next ?_ h
    unfold State.idle
    split
    · exact .outside rfl rfl rfl rfl rfl
    · split
      · exact .outside rfl rfl rfl rfl rfl
      · split
        · exact .outside rfl rfl rfl rfl rfl
        · exact s.storeClock_changes
  · next rest _ => exact Changes.trans (t := s.takePending rest) (.outside rfl rfl rfl rfl rfl) (exec_changes h)

end Sys2Proof.Machine
end

section
/-! The agreement of a lane with the mode and the timing table. -/

namespace Sys2Proof.Machine

/-! ### What each lane keeps: O59's clauses on banks and lines -/

theorem Bank.all_iff {p : Bank → Bool} : Bank.all.all p = true ↔ ∀ b, p b = true := by
  rw [List.all_eq_true]
  exact ⟨fun h b => h b (by cases b <;> simp [Bank.all]), fun h b _ => h b⟩

theorem Chan.all_iff {p : Chan → Bool} : Chan.all.all p = true ↔ ∀ c, p c = true := by
  rw [List.all_eq_true]
  exact ⟨fun h c => h c (by cases c <;> simp [Chan.all]), fun h c _ => h c⟩

/-- A property of every lane once one lane is replaced. -/
theorem PerBank.forall_set {α : Type} {p : PerBank α} {b : Bank} {x : α} {P : Bank → α → Prop} (same : P b x)
    (others : ∀ b', b' ≠ b → P b' (p.get b')) (b' : Bank) : P b' ((p.set b x).get b') := by
  by_cases h : b' = b
  · rw [h, PerBank.get_set_same]; exact same
  · rw [PerBank.get_set_other _ _ h]; exact others b' h

theorem PerChan.forall_set {α : Type} {p : PerChan α} {c : Chan} {x : α} {P : Chan → α → Prop} (same : P c x)
    (others : ∀ c', c' ≠ c → P c' (p.get c')) (c' : Chan) : P c' ((p.set c x).get c') := by
  by_cases h : c' = c
  · rw [h, PerChan.get_set_same]; exact same
  · rw [PerChan.get_set_other _ _ h]; exact others c' h

/-- A lane agrees with the mode, its PRESENT bit and its PAGEPOL bit, and its line with its state (R13, R14, R23, R168). -/
structure BankLane.Fits (l : BankLane) (m : Mode) (present page : Bool) : Prop where
  absent : l.state = .absent ↔ present = false
  allowed : m.allows l.state = true
  row : l.line.openRow.isSome = l.state.holdsRow
  stopped : l.state.holdsRow = true ∨ (l.line.expired = false ∧ l.line.timer.isNone = true)
  page : l.line.openPage = page

/-- Every lane agrees with the mode and the timing table. -/
def State.LanesFit (s : State) : Prop := ∀ b, (s.bank b).Fits s.mode (s.present b) (s.pagePol b)

theorem State.lanesFit_iff (s : State) : s.LanesFit ↔ s.bankModes = true ∧ s.linesOk = true := by
  unfold State.bankModes State.linesOk
  rw [Bank.all_iff, Bank.all_iff]
  simp only [Bool.and_eq_true, Bool.or_eq_true, Bool.not_eq_true', beq_iff_eq, Bool.eq_iff_iff (b := !_), ← forall_and]
  exact forall_congr' fun b => ⟨fun ⟨h1, h2, h3, h4, h5⟩ => ⟨⟨h1, h2⟩, ⟨h3, h4⟩, h5⟩,
    fun ⟨⟨h1, h2⟩, ⟨h3, h4⟩, h5⟩ => ⟨h1, h2, h3, h4, h5⟩⟩

/-- A passage without a row leads from an allowed state to an allowed one. -/
theorem BankState.Passes.allows {m : Mode} {st st' : BankState} (h : st.Passes m st') (ha : m.allows st = true) :
    m.allows st' = true := by
  cases h with
  | holds hm | warms hm => rw [hm]; rfl
  | activates _ hm | refreshes _ _ hm =>
    cases m with
    | warming => exact absurd rfl hm
    | _ => exact ha
  | _ => cases m <;> first | rfl | exact ha

/-- A passage without a row is between states that hold none, neither of them ABSENT or TRANSFERRING. -/
theorem BankState.Passes.rowless {m : Mode} {st st' : BankState} (h : st.Passes m st') :
    (st.holdsRow = false ∧ st ≠ .absent) ∧ st'.holdsRow = false ∧ st' ≠ .absent := by
  cases h <;> exact ⟨⟨rfl, nofun⟩, rfl, nofun⟩

/-- A move of a lane keeps its agreement. -/
theorem BankLane.Moves.fits {l l' : BankLane} {m : Mode} {present page : Bool} (h : l.Moves m l') (hl : l.Fits m present page) :
    l'.Fits m present page := by
  obtain ⟨absent, allowed, row, stopped, hpage⟩ := hl
  cases h with
  | counts l' state openRow openPage still debt paused =>
    refine ⟨state ▸ absent, state ▸ allowed, by rw [openRow, state]; exact row, ?_, openPage.trans hpage⟩
    rw [state]
    rcases still with holds | ⟨expired, timer⟩
    · exact .inl holds
    · rw [expired, timer]; exact stopped
  | passes l' state line debt paused =>
    obtain ⟨⟨noRow, notAbsent⟩, noRow', notAbsent'⟩ := state.rowless
    rw [noRow] at row stopped
    refine ⟨iff_of_false notAbsent' (mt absent.mpr notAbsent), state.allows allowed, ?_, ?_, line ▸ hpage⟩
    · rw [line, noRow']; exact row
    · rw [line]; exact .inr (stopped.resolve_left nofun)
  | opens r state =>
    rw [state] at absent allowed
    exact ⟨iff_of_false nofun (mt absent.mpr nofun), by cases m <;> first | rfl | exact allowed, rfl, .inl rfl, hpage⟩
  | closes state =>
    rw [state] at absent allowed
    exact ⟨iff_of_false nofun (mt absent.mpr nofun), by cases m <;> first | rfl | exact allowed, rfl, .inr ⟨rfl, rfl⟩, hpage⟩

/-- A lane that holds its row agrees in another state that holds one. -/
theorem BankLane.Fits.withRow {l : BankLane} {m : Mode} {present page : Bool} {st : BankState} (hl : l.Fits m present page)
    (from_ : l.state = .rowOpen ∨ l.state = .transferring) (to_ : st = .rowOpen ∨ st = .transferring ∨ st = .precharging) :
    (l.enter st).Fits m present page := by
  obtain ⟨absent, allowed, row, stopped, hpage⟩ := hl
  have holds : l.state.holdsRow = true := by rcases from_ with h | h <;> rw [h] <;> rfl
  have holds' : st.holdsRow = true := by rcases to_ with h | h | h <;> rw [h] <;> rfl
  have present' : l.state ≠ .absent := by rcases from_ with h | h <;> rw [h] <;> nofun
  refine ⟨iff_of_false ?_ (mt absent.mpr present'), ?_, row.trans (holds.trans holds'.symm), .inl holds', hpage⟩
  · rcases to_ with h | h | h <;> rw [h] <;> nofun
  · rcases from_ with h | h <;> rcases to_ with h' | h' | h' <;> rw [h] at allowed <;> rw [h'] <;> cases m <;>
      first | rfl | exact allowed

/-- A lane that agrees in one mode agrees in another that allows its state. -/
theorem BankLane.Fits.inMode {l : BankLane} {m m' : Mode} {present page : Bool} (hl : l.Fits m present page)
    (h : m'.allows l.state = true) : l.Fits m' present page :=
  ⟨hl.absent, h, hl.row, hl.stopped, hl.page⟩

theorem State.allPresent_iff (s : State) (st : BankState) :
    s.allPresent st = true ↔ ∀ b, s.present b = true → (s.bank b).state = st := by
  unfold State.allPresent
  rw [Bank.all_iff]
  exact forall_congr' fun b => by cases s.present b <;> simp

/-- Lanes whose banks are all in one state, the absent ones apart, agree with a mode that allows the state. -/
theorem State.LanesFit.ofAll {s : State} (hs : s.LanesFit) {st : BankState} (hall : s.allPresent st = true) {m : Mode}
    (h : m.allows st = true) (b : Bank) : (s.bank b).Fits m (s.present b) (s.pagePol b) := by
  refine (hs b).inMode ?_
  cases hp : s.present b
  · rw [(hs b).absent.mpr hp]; cases m <;> rfl
  · rw [(s.allPresent_iff st).mp hall b hp]; exact h

end Sys2Proof.Machine
end

section
/-! Every change keeps the agreement of the lanes. -/

namespace Sys2Proof.Machine

/-! #### The bits of the timing table -/

/-- The PAGEPOL bits stay where another byte of the timing table is stored. -/
theorem State.pagePol_eq_of_timing {s t : State} {i : Nat} {v : Byte} (ht : t.timing = s.timing.setIfInBounds i v) (h : i ≠ 10)
    (b : Bank) : t.pagePol b = s.pagePol b := by
  simp [State.pagePol, ht, h]

/-- The PRESENT bits stay where another byte of the timing table is stored. -/
theorem State.present_eq_of_timing {s t : State} {i : Nat} {v : Byte} (ht : t.timing = s.timing.setIfInBounds i v) (h : i ≠ 11)
    (b : Bank) : t.present b = s.present b := by
  simp [State.present, ht, h]

/-- The PAGEPOL bits that a write of their byte leaves. -/
theorem State.pagePol_eq_of_write {s t : State} {v : Byte} (ht : t.timing = s.timing.setIfInBounds 10 v) (b : Bank) :
    t.pagePol b = v.getLsbD b.num := by
  simp [State.pagePol, ht]

/-- The PRESENT bits that a write of their byte leaves. -/
theorem State.present_eq_of_write {s t : State} {v : Byte} (ht : t.timing = s.timing.setIfInBounds 11 v) (b : Bank) :
    t.present b = v.getLsbD b.num := by
  simp [State.present, ht]

/-- A write of PAGEPOL (R169). -/
theorem State.storeTiming_pagePol (s : State) (v : Byte) :
    s.storeTiming 10 v = { s with
      timing := s.timing.setIfInBounds 10 v
      banks := s.banks.map fun b l => { l with line := { l.line with openPage := v.getLsbD b.num } } } := by
  simp [State.storeTiming, State.pagePol]

/-- A write of PRESENT (R14, R69). -/
theorem State.storeTiming_present (s : State) (v : Byte) :
    s.storeTiming 11 v = { s with
      timing := s.timing.setIfInBounds 11 v
      banks := s.banks.map fun b l => l.afterPresent (s.present b) (v.getLsbD b.num)
      weak := s.weak.filter fun e => v.getLsbD e.bank.num } := by
  simp [State.storeTiming, State.present]

/-- A write of another byte of the timing table. -/
theorem State.storeTiming_other (s : State) {i : Nat} (v : Byte) (hpol : i ≠ 10) (hpres : i ≠ 11) :
    s.storeTiming i v = { s with timing := s.timing.setIfInBounds i v } := by
  simp [State.storeTiming, hpol, hpres]

/-- After a reset no bank is present and every PAGEPOL bit is 0 (R193). -/
theorem State.timingReset_bits {t : State} (ht : t.timing = timingReset) (b : Bank) : t.present b = false ∧ t.pagePol b = false := by
  unfold State.present State.pagePol
  rw [ht]
  cases b <;> decide

/-! #### Every change keeps the lanes -/

/-- The lanes after one of them is replaced by one that agrees. -/
theorem State.LanesFit.setBank {s : State} (hs : s.LanesFit) {b : Bank} {l : BankLane}
    (h : l.Fits s.mode (s.present b) (s.pagePol b)) (b' : Bank) :
    ((s.banks.set b l).get b').Fits s.mode (s.present b') (s.pagePol b') := by
  by_cases hb : b' = b
  · rw [hb, PerBank.get_set_same]; exact h
  · rw [PerBank.get_set_other _ _ hb]; exact hs b'

/-- The mode changes that leave the lanes as they are allow the states that they find. -/
theorem Mode.allows_of_passage {m m' : Mode} {st : BankState}
    (h : (m, m') = (.setup, .warming) ∨ (m, m') = (.run, .holdEntry) ∨ (m, m') = (.run, .quiescing) ∨ (m, m') = (.hold, .waking))
    (ha : m.allows st = true) : m'.allows st = true := by
  rcases h with ⟨⟨⟩⟩ | ⟨⟨⟩⟩ | ⟨⟨⟩⟩ | ⟨⟨⟩⟩ <;> cases st <;> first | rfl | exact ha

/-- A lane moved by a PRESENT write agrees with its new bit, where its mode is SETUP (R14). -/
theorem BankLane.Fits.afterPresent {l : BankLane} {was page : Bool} (h : l.Fits .setup was page) (is : Bool) :
    (l.afterPresent was is).Fits .setup is page := by
  unfold BankLane.afterPresent
  split
  · next hsame => exact hsame ▸ h
  · cases is with
    | true => exact ⟨iff_of_false nofun nofun, rfl, rfl, .inr ⟨rfl, rfl⟩, h.page⟩
    | false => exact ⟨iff_of_true rfl rfl, rfl, rfl, .inr ⟨rfl, rfl⟩, h.page⟩

theorem BankLane.Fits.cast {l : BankLane} {m : Mode} {present page present' page' : Bool} (h : l.Fits m present page)
    (hpresent : present' = present) (hpage : page' = page) : l.Fits m present' page' := by
  rw [hpresent, hpage]; exact h

/-- A write of the timing table in SETUP keeps the agreement of the lanes (R14, R169). -/
theorem State.LanesFit.storeTiming {s : State} (hs : s.LanesFit) (hm : s.mode = .setup) (i : Nat) (v : Byte) :
    (s.storeTiming i v).LanesFit := by
  by_cases hpol : i = 10
  · rw [hpol, s.storeTiming_pagePol v]
    intro b
    refine BankLane.Fits.cast (page := v.getLsbD b.num) ?_ (State.present_eq_of_timing (s := s) rfl (by decide) b)
      (State.pagePol_eq_of_write (s := s) rfl b)
    show BankLane.Fits ((s.banks.map _).get b) _ _ _
    rw [PerBank.get_map]
    exact ⟨(hs b).absent, (hs b).allowed, (hs b).row, (hs b).stopped, rfl⟩
  · by_cases hpres : i = 11
    · rw [hpres, s.storeTiming_present v]
      intro b
      refine BankLane.Fits.cast ?_ (State.present_eq_of_write (s := s) rfl b)
        (State.pagePol_eq_of_timing (s := s) rfl (by decide) b)
      show BankLane.Fits ((s.banks.map _).get b) s.mode _ _
      rw [PerBank.get_map, hm]
      exact BankLane.Fits.afterPresent (hm ▸ hs b) _
    · rw [s.storeTiming_other v hpol hpres]
      exact fun b => (hs b).cast (State.present_eq_of_timing (s := s) rfl hpres b) (State.pagePol_eq_of_timing (s := s) rfl hpol b)

/-- A lane that leaves HELD at the end of a wake agrees with RUN (R21). -/
theorem BankLane.Fits.woken {l : BankLane} {present page : Bool} (h : l.Fits .waking present page) :
    (if l.state = .held then l.released else l).Fits .run present page := by
  split
  · next hheld =>
    exact ⟨iff_of_false nofun (mt h.absent.mpr (by rw [hheld]; nofun)), rfl, rfl, .inr ⟨rfl, rfl⟩, h.page⟩
  · next hheld =>
    refine h.inMode ?_
    have allowed := h.allowed
    cases hl : l.state with
    | held => exact absurd hl hheld
    | absent => rfl
    | _ => rw [hl] at allowed; cases allowed

/-- Every change keeps the agreement of the lanes. -/
theorem Change.lanesFit {s t : State} (h : Change s t) (hs : s.LanesFit) : t.LanesFit := by
  have passes {m m' : Mode} (hm : s.mode = m)
      (h : (m, m') = (.setup, .warming) ∨ (m, m') = (.run, .holdEntry) ∨ (m, m') = (.run, .quiescing) ∨ (m, m') = (.hold, .waking))
      (b : Bank) : (s.bank b).Fits m' (s.present b) (s.pagePol b) :=
    (hs b).inMode (Mode.allows_of_passage (hm ▸ h) (hs b).allowed)
  cases h with
  | aside t core => exact (show t.core.LanesFit from core ▸ hs)
  | lanes f moves => exact fun b => (moves b).fits (hs b)
  | reset =>
    intro b
    refine BankLane.Fits.cast ?_ (State.timingReset_bits rfl b).1 (State.timingReset_bits rfl b).2
    show BankLane.Fits ((PerBank.same BankLane.reset).get b) .setup _ _
    rw [PerBank.get_same]
    exact ⟨iff_of_true rfl rfl, rfl, rfl, .inr ⟨rfl, rfl⟩, rfl⟩
  | timing i v mode => exact s.storeTiming_frame i v ▸ hs.storeTiming mode i v
  | bringup _ mode => exact passes mode (.inl rfl)
  | warmedUp mode closed => exact hs.ofAll closed rfl
  | hold mode => exact passes mode (.inr (.inl rfl))
  | held mode action held => exact hs.ofAll held rfl
  | wake mode => exact passes mode (.inr (.inr (.inr rfl)))
  | woken mode =>
    intro b
    show BankLane.Fits ((s.banks.map _).get b) _ _ _
    rw [PerBank.get_map]
    exact BankLane.Fits.woken (mode ▸ hs b)
  | quiesce mode => exact passes mode (.inr (.inr (.inl rfl)))
  | quiesced mode empty closed => exact hs.ofAll closed rfl
  | precharge b isOpen => exact hs.setBank ((hs b).withRow (.inl isOpen) (.inr (.inr rfl)))
  | grant a a' r b queue free isOpen => exact hs.setBank ((hs r.bank).withRow (.inl isOpen) (.inr (.inl rfl)))
  | suspend a r b queue active transferring => exact hs.setBank ((hs r.bank).withRow (.inr transferring) (.inl rfl))
  | complete a r b bad queue active transferring => exact hs.setBank ((hs r.bank).withRow (.inr transferring) (.inl rfl))
  | remove a r b queue active transferring => exact hs.setBank ((hs r.bank).withRow (.inr transferring) (.inl rfl))
  | _ => exact hs

end Sys2Proof.Machine
end

section
/-! The queue that a mode allows, the users it admits, and the holder of the data path, each taken apart. -/

namespace Sys2Proof.Machine

/-! #### The queue that a mode allows (R75) -/

/-- Whether a mode allows a queue (R75). -/
def Mode.queueOk (m : Mode) (q : List Record) : Bool :=
  match m with
  | .setup | .warming | .hold | .waking => q.isEmpty
  | .quiescing => q.all (·.state == .active)
  | .holdEntry => q.all (·.source == .host)
  | .run => true

theorem State.queueModes_eq (s : State) : s.queueModes = s.mode.queueOk s.queue := rfl

/-- A mode that allows a queue allows one whose records stand for some of its records. -/
theorem Mode.queueOk_of_from {m : Mode} {q q' : List Record} (h : m.queueOk q = true)
    (hfrom : ∀ r' ∈ q', ∃ r ∈ q, r'.source = r.source ∧ (m = .quiescing → r.state = .active → r'.state = .active)) :
    m.queueOk q' = true := by
  have empty (hq : q.isEmpty = true) : q'.isEmpty = true := by
    rw [List.isEmpty_iff] at hq ⊢
    subst hq
    refine List.eq_nil_iff_forall_not_mem.mpr fun r' hr' => ?_
    obtain ⟨r, hr, _⟩ := hfrom r' hr'
    cases hr
  cases m with
  | quiescing =>
    simp only [Mode.queueOk, List.all_eq_true, beq_iff_eq] at h ⊢
    intro r' hr'
    obtain ⟨r, hr, _, hstate⟩ := hfrom r' hr'
    exact hstate rfl (h r hr)
  | holdEntry =>
    simp only [Mode.queueOk, List.all_eq_true, beq_iff_eq] at h ⊢
    intro r' hr'
    obtain ⟨r, hr, hsource, _⟩ := hfrom r' hr'
    exact hsource.trans (h r hr)
  | run => rfl
  | _ => exact empty h

/-! #### The users that a mode admits (R53, R116, R183) -/

/-- The users of a mode, taken apart. -/
structure State.UsersLaw (s : State) : Prop where
  quiet : s.mode = .run ∨ ∀ c, (s.chan c).busy = false
  active : s.mode = .holdEntry ∨ s.mode = .hold ∨ s.mode = .waking → ∀ b, (s.bank b).paused = false
  released : s.inReset = true → s.mode = .setup

theorem Channel.busy_eq_false_iff (x : Channel) : x.busy = false ↔ x.state = .idle ∨ x.state = .faulted := by
  unfold Channel.busy
  cases x.state <;> simp

theorem State.modeUsers_iff (s : State) : s.modeUsers = true ↔ s.UsersLaw := by
  unfold State.modeUsers
  simp only [Bool.and_eq_true, Bool.or_eq_true, Bool.not_eq_true', Chan.all_iff, Bank.all_iff, beq_iff_eq, Bool.or_eq_false_iff,
    beq_eq_false_iff_ne, ← Channel.busy_eq_false_iff]
  constructor
  · rintro ⟨⟨quiet, active⟩, released⟩
    exact ⟨quiet, fun hm => active.resolve_left (by tauto), fun hr => released.resolve_left (by simp [hr])⟩
  · rintro ⟨quiet, active, released⟩
    exact ⟨⟨quiet, by tauto⟩, (Bool.eq_false_or_eq_true _).symm.imp_right released⟩

/-! #### The record in flight and its bank (R26) -/

/-- The banks of the ACTIVE records. -/
def holders (q : List Record) : List Bank := (q.filter (·.state == .active)).map Record.bank

/-- The data path, taken apart: one holder at most, which alone is TRANSFERRING. -/
structure State.PathLaw (s : State) : Prop where
  one : (holders s.queue).length ≤ 1
  grant : ∀ b, (s.bank b).state = .transferring ↔ b ∈ holders s.queue

theorem State.pathOk_iff (s : State) : s.pathOk = true ↔ s.PathLaw := by
  have grant (b : Bank) : (((s.bank b).state == .transferring) == s.queue.any fun r => r.state == .active && r.bank == b) = true ↔
      ((s.bank b).state = .transferring ↔ b ∈ holders s.queue) := by
    rw [beq_iff_eq, Bool.eq_iff_iff]
    simp [holders, and_assoc]
  unfold State.pathOk
  rw [Bool.and_eq_true, Bank.all_iff, decide_eq_true_eq, List.countP_eq_length_filter]
  simp only [grant]
  exact ⟨fun ⟨h1, h2⟩ => ⟨by rw [holders, List.length_map]; exact h1, h2⟩,
    fun ⟨h1, h2⟩ => ⟨by rw [holders, List.length_map] at h1; exact h1, h2⟩⟩

theorem holders_append (a b : List Record) : holders (a ++ b) = holders a ++ holders b := by simp [holders]

theorem holders_cons_active {r : Record} (h : r.state = .active) (b : List Record) : holders (r :: b) = r.bank :: holders b := by
  simp [holders, h]

theorem holders_cons_of_ne {r : Record} (h : r.state ≠ .active) (b : List Record) : holders (r :: b) = holders b := by
  simp [holders, h]

/-- Records changed but for their banks and whether they are ACTIVE. -/
theorem holders_map {f : Record → Record}
    (hf : ∀ r, (f r).bank = r.bank ∧ ((f r).state = .active ↔ r.state = .active)) (q : List Record) :
    holders (q.map f) = holders q := by
  induction q with
  | nil => rfl
  | cons r rest ih =>
    obtain ⟨hbank, hstate⟩ := hf r
    by_cases h : r.state = .active
    · rw [List.map_cons, holders_cons_active (hstate.mpr h), holders_cons_active h, hbank, ih]
    · rw [List.map_cons, holders_cons_of_ne (mt hstate.mp h), holders_cons_of_ne h, ih]

/-- Records that are not ACTIVE leave. -/
theorem holders_filter {p : Record → Bool} (hp : ∀ r, r.state = .active → p r = true) (q : List Record) :
    holders (q.filter p) = holders q := by
  unfold holders
  rw [List.filter_filter]
  congr 1
  refine List.filter_congr fun r _ => ?_
  by_cases h : r.state = .active
  · simp [h, hp r h]
  · simp [h]

theorem State.holders_select (s : State) (line : ChoiceLine) (i : Nat) : holders (s.select line i).queue = holders s.queue := by
  have bare (u : State) : holders u.bareQueue = holders u.queue := holders_map (f := Record.bare) (fun _ => ⟨rfl, Iff.rfl⟩) _
  rw [← bare, s.bareQueue_select, bare]

/-- Around the record in flight no record is ACTIVE. -/
theorem State.PathLaw.around {s : State} (h : s.PathLaw) {a b : List Record} {r : Record} (hq : s.queue = a ++ r :: b)
    (active : r.state = .active) : holders a = [] ∧ holders b = [] := by
  have one := h.one
  rw [hq, holders_append, holders_cons_active active, List.length_append, List.length_cons] at one
  exact ⟨List.eq_nil_of_length_eq_zero (by omega), List.eq_nil_of_length_eq_zero (by omega)⟩

/-- The data path once the record in flight has released it. -/
theorem State.PathLaw.leaves {s : State} (h : s.PathLaw) {a b : List Record} {r : Record} (hq : s.queue = a ++ r :: b)
    (active : r.state = .active) {st : BankState} (hst : st ≠ .transferring) (b' : Bank) :
    (((s.banks.set r.bank ((s.bank r.bank).enter st)).get b').state = .transferring ↔ b' ∈ ([] : List Bank)) := by
  refine iff_of_false ?_ nofun
  by_cases hb : b' = r.bank
  · rw [hb, PerBank.get_set_same]; exact hst
  · rw [PerBank.get_set_other _ _ hb]
    obtain ⟨ha, hb'⟩ := h.around hq active
    rw [show s.banks.get b' = s.bank b' from rfl, h.grant, hq, holders_append, holders_cons_active active, ha, hb']
    simpa using hb

end Sys2Proof.Machine
end

section
/-! The agreement of modes, banks, queue and data path as a whole, and the queue that every change keeps. -/

namespace Sys2Proof.Machine

/-! #### The agreement as a whole -/

/-- The agreement of modes, banks, queue and data path, taken apart. -/
structure State.Agrees (s : State) : Prop where
  lanes : s.LanesFit
  queue : s.mode.queueOk s.queue = true
  action : s.prechargeModes = true
  users : s.UsersLaw
  path : s.PathLaw

theorem State.control_iff (s : State) : s.control = true ↔ s.Agrees := by
  unfold State.control
  simp only [Bool.and_eq_true, s.modeUsers_iff, s.pathOk_iff, s.queueModes_eq]
  constructor
  · rintro ⟨⟨⟨⟨⟨modes, queue⟩, action⟩, users⟩, path⟩, lines⟩
    exact ⟨s.lanesFit_iff.mpr ⟨modes, lines⟩, queue, action, users, path⟩
  · rintro ⟨lanes, queue, action, users, path⟩
    obtain ⟨modes, lines⟩ := s.lanesFit_iff.mp lanes
    exact ⟨⟨⟨⟨⟨modes, queue⟩, action⟩, users⟩, path⟩, lines⟩

/-- The agreement is one of the core. -/
theorem State.Agrees.of_core {s t : State} (hs : s.Agrees) (core : t.core = s.core) : t.Agrees := by
  rw [← State.control_iff] at hs ⊢
  show t.core.control = true
  rw [core]; exact hs

section
variable {s t : State} (hs : s.Agrees)
include hs

/-- A channel that is RUNNING or DRAINING runs in RUN. -/
theorem State.Agrees.mode_of_busy {c : Chan} (h : (s.chan c).busy = true) : s.mode = .run :=
  hs.users.quiet.resolve_right fun quiet => by rw [quiet c] at h; cases h

/-- In RUN the precharge-all action is absent (R168). -/
theorem State.Agrees.noAction (h : s.mode = .run) : s.prechargeAll = false := by
  simpa [State.prechargeModes, h] using hs.action

/-- In HOLD_ENTRY the precharge-all action is present exactly with the queue empty (R168, R178). -/
theorem State.Agrees.holdAction (h : s.mode = .holdEntry) : s.prechargeAll = s.queue.isEmpty := by
  simpa [State.prechargeModes, h] using hs.action

/-- A part out of SETUP is not held in reset (R183). -/
theorem State.Agrees.released (h : s.mode ≠ .setup) : s.inReset = false := by
  cases hr : s.inReset
  · rfl
  · exact absurd (hs.users.released hr) h

end

/-- A record among those that a grant has passed over stands for an older one. -/
theorem exists_of_passedOver {a a' : List Record} (h : List.Forall₂ (fun p p' => p' = p ∨ p' = p.bypassed) a a') {p' : Record}
    (hp : p' ∈ a') : ∃ p ∈ a, p' = p ∨ p' = p.bypassed := by
  induction h with
  | nil => cases hp
  | cons hfirst _ ih =>
    rcases List.mem_cons.mp hp with rfl | hp
    · exact ⟨_, List.mem_cons_self, hfirst⟩
    · obtain ⟨p, hmem, hp⟩ := ih hp
      exact ⟨p, List.mem_cons_of_mem _ hmem, hp⟩

/-- The queue that a mode allows does not depend on the notes of selections. -/
theorem Mode.queueOk_bare (m : Mode) (q : List Record) : m.queueOk (q.map Record.bare) = m.queueOk q := by
  cases m with
  | quiescing | holdEntry => simp only [Mode.queueOk, List.all_map]; rfl
  | run => rfl
  | _ => simp [Mode.queueOk]

/-- Where no channel has a record outstanding the records are the host's. -/
theorem State.source_of_noneOutstanding {s : State} (h : ∀ c, s.outstanding c = 0) {r : Record} (hr : r ∈ s.queue) :
    r.source = .host := by
  cases hsource : r.source with
  | host => rfl
  | chan c => exact absurd (by simp [hsource]) (List.countP_eq_zero.mp (h c) r hr)

/-- Every change keeps the queue that the mode allows (R75). -/
theorem Change.queueOk {s t : State} (h : Change s t) (hs : s.Agrees) : t.mode.queueOk t.queue = true := by
  have queue := hs.queue
  have inRun {m : Mode} {q : List Record} (h : m = .run) : m.queueOk q = true := by rw [h]; rfl
  have mapped {f : Record → Record} (hf : ∀ r, (f r).source = r.source ∧ (r.state = .active → (f r).state = .active)) :
      s.mode.queueOk (s.queue.map f) = true := by
    refine Mode.queueOk_of_from queue fun r' hr' => ?_
    obtain ⟨r, hr, rfl⟩ := List.mem_map.mp hr'
    exact ⟨r, hr, (hf r).1, fun _ => (hf r).2⟩
  have sublist {q : List Record} (hq : q.Sublist s.queue) : s.mode.queueOk q = true :=
    Mode.queueOk_of_from queue fun r hr => ⟨r, hq.subset hr, rfl, fun _ => id⟩
  have replaced {a b a' : List Record} {r r' : Record} (hq : s.queue = a ++ r :: b) (hr : r'.source = r.source)
      (hstate : s.mode = .quiescing → r'.state = .active)
      (ha : List.Forall₂ (fun p p' => p' = p ∨ p' = p.bypassed) a a') : s.mode.queueOk (a' ++ r' :: b) = true := by
    refine Mode.queueOk_of_from queue fun p' hp' => ?_
    rw [hq]
    rcases List.mem_append.mp hp' with hp' | hp'
    · obtain ⟨p, hp, rfl | rfl⟩ := exists_of_passedOver ha hp'
      · exact ⟨p', List.mem_append_left _ hp, rfl, fun _ => id⟩
      · exact ⟨p, List.mem_append_left _ hp, rfl, fun _ => id⟩
    · rcases List.mem_cons.mp hp' with rfl | hp'
      · exact ⟨r, by simp, hr, fun hm _ => hstate hm⟩
      · exact ⟨p', by simp [hp'], rfl, fun _ => id⟩
  have self (a : List Record) : List.Forall₂ (fun p p' => p' = p ∨ p' = p.bypassed) a a := List.forall₂_same.mpr fun _ _ => .inl rfl
  cases h with
  | aside t core =>
    show t.core.mode.queueOk t.core.queue = true
    rw [core]; exact queue
  | reset => rfl
  | bringup _ mode => rw [mode] at queue; exact queue
  | warmedUp => rfl
  | hold mode quiet =>
    exact List.all_eq_true.mpr fun r hr => beq_iff_eq.mpr (State.source_of_noneOutstanding (fun c => (quiet c).2) hr)
  | held mode action => exact (hs.holdAction mode).symm.trans action
  | wake mode => rw [mode] at queue; exact queue
  | woken => rfl
  | quiesce => simp [Mode.queueOk]
  | quiesced => rfl
  | drop b => exact mapped fun r => by split <;> exact ⟨rfl, id⟩
  | select b line i =>
    have := s.bareQueue_select line i
    rw [← Mode.queueOk_bare]
    show s.mode.queueOk (s.select line i).bareQueue = true
    rw [this, State.bareQueue, Mode.queueOk_bare]
    exact queue
  | precharge b => exact mapped fun r => by split <;> exact ⟨rfl, id⟩
  | joinRead mode => exact inRun mode
  | joinWrite mode => exact inRun mode
  | joinByte mode => exact inRun mode
  | post c running => exact inRun (hs.mode_of_busy (c := c) (by simp [Channel.busy, running]))
  | stage => exact mapped fun r => by split <;> simp_all
  | age c => exact mapped fun r => by unfold Record.aged; split <;> exact ⟨rfl, id⟩
  | withdraw c => exact sublist List.filter_sublist
  | cancel => exact sublist List.filter_sublist
  | grant a a' r b hq _ _ _ older => exact replaced hq rfl (fun _ => rfl) older
  | word a r b bad hq active => exact replaced hq rfl (fun _ => active) (self a)
  | suspend a r b hq _ _ _ mode => exact replaced hq rfl (fun hm => absurd hm mode) (self a)
  | complete a r b bad hq => exact sublist (by rw [hq]; exact (List.sublist_cons_self r b).append_left a)
  | remove a r b hq => exact sublist (by rw [hq]; exact (List.sublist_cons_self r b).append_left a)
  | _ => exact queue

end Sys2Proof.Machine
end

section
/-! The precharge-all action, the users and the data path through every change: O59. -/

namespace Sys2Proof.Machine

/-- The precharge-all action by mode, action and whether the queue is empty (R168, R178). -/
def Mode.actionOk (m : Mode) (action empty : Bool) : Bool :=
  match m with
  | .quiescing => action
  | .holdEntry => action == empty
  | _ => !action

theorem State.prechargeModes_eq (s : State) : s.prechargeModes = s.mode.actionOk s.prechargeAll s.queue.isEmpty := rfl

/-- Outside HOLD_ENTRY the queue does not decide the action. -/
theorem Mode.actionOk_of_ne {m : Mode} {action e e' : Bool} (hm : m ≠ .holdEntry) (h : m.actionOk action e = true) :
    m.actionOk action e' = true := by
  cases m with
  | holdEntry => exact absurd rfl hm
  | _ => exact h

/-- The action stays right after a removal from a queue that held a record (R95). -/
theorem State.Agrees.actionAfter {s : State} (hs : s.Agrees) {q : List Record} (hq : q ≠ [] → s.queue ≠ []) :
    s.mode.actionOk (s.actionAfter q) q.isEmpty = true := by
  unfold State.actionAfter
  by_cases hm : s.mode = .holdEntry
  · rw [hm]
    by_cases he : q = []
    · simp [he, Mode.actionOk]
    · have action := hs.holdAction hm
      rw [if_neg fun h => he h.2, action, List.isEmpty_eq_false_iff.mpr (hq he), List.isEmpty_eq_false_iff.mpr he]
      rfl
  · rw [if_neg fun h => hm h.1]
    exact Mode.actionOk_of_ne hm hs.action

/-- Every change keeps the precharge-all action when the mode says (R168). -/
theorem Change.actionOk {s t : State} (h : Change s t) (hs : s.Agrees) : t.prechargeModes = true := by
  have action : s.mode.actionOk s.prechargeAll s.queue.isEmpty = true := hs.action
  have sameEmpty {q : List Record} (hq : q.isEmpty = s.queue.isEmpty) : s.mode.actionOk s.prechargeAll q.isEmpty = true := hq ▸ action
  have inRun (hm : s.mode = .run) (e : Bool) : s.mode.actionOk s.prechargeAll e = true :=
    Mode.actionOk_of_ne (by rw [hm]; nofun) action
  have split {a a' b : List Record} {r r' : Record} (hq : s.queue = a ++ r :: b) :
      s.mode.actionOk s.prechargeAll (a' ++ r' :: b).isEmpty = true := by
    have nonempty (a : List Record) (r : Record) : (a ++ r :: b).isEmpty = false := by simp
    exact sameEmpty (by rw [hq, nonempty, nonempty])
  cases h with
  | aside t core =>
    show t.core.prechargeModes = true
    rw [core]; exact action
  | reset => rfl
  | bringup _ mode => rw [mode] at action; exact action
  | warmedUp mode => rw [mode] at action; exact action
  | hold mode =>
    rw [State.prechargeModes_eq, hs.noAction mode]
    cases s.queue <;> simp [Mode.actionOk]
  | held => rfl
  | wake mode => rw [mode] at action; exact action
  | woken mode => rw [mode] at action; exact action
  | quiesce => rfl
  | quiesced => rfl
  | drop b => exact sameEmpty (by simp [State.dropSelection])
  | select b line i =>
    have length : (s.select line i).queue.length = s.queue.length := List.length_modify ..
    exact sameEmpty (by rw [Bool.eq_iff_iff, List.isEmpty_iff_length_eq_zero, List.isEmpty_iff_length_eq_zero, length])
  | precharge b => exact sameEmpty (by simp [State.startPrecharge, State.dropSelection])
  | joinRead mode => exact inRun mode _
  | joinWrite mode => exact inRun mode _
  | joinByte mode => exact inRun mode _
  | post c running => exact inRun (hs.mode_of_busy (c := c) (by simp [Channel.busy, running])) _
  | stage => exact sameEmpty (by simp [State.stagingToWaiting])
  | age c => exact sameEmpty (by simp)
  | withdraw c busy => exact inRun (hs.mode_of_busy busy) _
  | cancel =>
    refine hs.actionAfter fun hne he => hne ?_
    simp [State.withdrawHost, he]
  | grant a a' r b hq => exact split hq
  | word a r b bad hq => exact split hq
  | suspend a r b hq => exact split hq
  | complete a r b bad hq => exact hs.actionAfter fun _ => by simp [hq]
  | remove a r b hq _ _ mode => exact Mode.actionOk_of_ne (m := s.mode) (by rw [mode]; nofun) action
  | _ => exact action

/-! #### Channels -/

/-- The channels after one of them is replaced by one in the same state. -/
theorem State.busy_setChan {s : State} {c : Chan} {x : Channel} (hx : x.state = (s.chan c).state) (c' : Chan) :
    ((s.chans.set c x).get c').busy = (s.chan c').busy := by
  by_cases hc : c' = c
  · rw [hc, PerChan.get_set_same, Channel.busy, hx]; rfl
  · rw [PerChan.get_set_other _ _ hc]; rfl

/-- The movement of a word leaves the states of the channels. -/
theorem State.moveWord_busy (s : State) (r : Record) (c : Chan) : ((s.moveWord r).chans.get c).busy = (s.chan c).busy := by
  unfold State.moveWord State.deliver State.takeWord
  split
  · split
    · rfl
    · exact s.busy_setChan (by rfl) c
  · split
    · rfl
    · exact State.busy_setChan (s := s.putWord r _) (by rfl) c
  · split
    · rfl
    · split <;> rfl

/-- What waited for a removal is cleared without a change of the states of the channels. -/
theorem State.clearWaiting_busy (s : State) (r : Record) (c : Chan) : ((s.clearWaiting r).chans.get c).busy = (s.chan c).busy := by
  unfold State.clearWaiting
  split
  · rfl
  · rfl
  · rfl
  · exact s.busy_setChan (by rfl) c

/-- A channel through a traffic reset: as flushed, unless its record is in flight, and IDLE. -/
theorem State.resetChan_same (s : State) (c : Chan) : ((s.resetChan c).chan c).busy = false := by
  unfold State.resetChan
  simp only [State.chan_setChan_same]
  rfl

theorem State.resetChan_other (s : State) {c c' : Chan} (h : c' ≠ c) : (s.resetChan c).chan c' = s.chan c' := by
  unfold State.resetChan
  simp only
  rw [State.chan_setChan_other _ _ h]
  split
  · rfl
  · exact State.chan_setChan_other _ _ h

theorem State.clearTraffic_chan (s : State) (c : Chan) : (s.clearTraffic.chans.get c).busy = false := by
  show ((((s.resetChan .c0).resetChan .c1).resetChan .c2).chan c).busy = false
  cases c with
  | c0 => rw [State.resetChan_other (c := .c2) (c' := .c0) _ nofun, State.resetChan_other (c := .c1) (c' := .c0) _ nofun,
      State.resetChan_same]
  | c1 => rw [State.resetChan_other (c := .c2) (c' := .c1) _ nofun, State.resetChan_same]
  | c2 => exact State.resetChan_same _ _

/-- A channel that moves outside RUN does not begin to run. -/
theorem Channel.Moves.busy {x x' : Channel} (h : x.Moves x') (hx : x.busy = false) : x'.busy = false := by
  rw [Channel.busy_eq_false_iff] at hx ⊢
  rcases h.state with hstate | hstate | hstate | ⟨hrun, _⟩
  · rw [hstate]; exact hx
  · exact .inl hstate
  · exact .inr hstate
  · rw [hrun] at hx; rcases hx with hx | hx <;> cases hx

theorem BankLane.Moves.paused {l l' : BankLane} {m : Mode} (h : l.Moves m l') (hm : m ≠ .run) : l'.paused = l.paused := by
  cases h with
  | counts l' _ _ _ _ _ paused => exact paused.resolve_right hm
  | passes l' _ _ _ paused => exact paused
  | opens | closes => rfl

/-- Every change keeps the users that the mode admits (R53, R116, R183). -/
theorem Change.usersLaw {s t : State} (h : Change s t) (hs : s.Agrees) : t.UsersLaw := by
  have users := hs.users
  have chans {f : PerChan Channel} (hf : ∀ c, (f.get c).busy = (s.chan c).busy) : s.mode = .run ∨ ∀ c, (f.get c).busy = false :=
    users.quiet.imp_right fun quiet c => (hf c).trans (quiet c)
  have lane {b : Bank} {l : BankLane} (hl : l.paused = (s.bank b).paused) :
      s.mode = .holdEntry ∨ s.mode = .hold ∨ s.mode = .waking → ∀ b', ((s.banks.set b l).get b').paused = false := fun hm =>
    PerBank.forall_set (P := fun _ (l : BankLane) => l.paused = false) (hl.trans (users.active hm b)) fun b' _ => users.active hm b'
  have reset {m : Mode} (hm : s.mode = m) (h : m ≠ .setup) {m' : Mode} (hr : s.inReset = true) : m' = .setup := by
    rw [hs.released (hm ▸ h)] at hr; cases hr
  cases h with
  | aside t core => exact (hs.of_core core).users
  | lanes f moves =>
    refine ⟨users.quiet, fun hm b => ((moves b).paused ?_).trans (users.active hm b), users.released⟩
    rintro hrun
    have hm : s.mode = .holdEntry ∨ s.mode = .hold ∨ s.mode = .waking := hm
    rw [hrun] at hm
    simp at hm
  | chans f moves => exact ⟨users.quiet.imp_right fun quiet c => (moves c).busy (quiet c), users.active, users.released⟩
  | reset =>
    refine ⟨.inr fun c => ?_, by simp [State.resetItems, State.reset], fun _ => rfl⟩
    show Channel.busy ((s.chans.map fun _ x => x.afterReset).get c) = false
    rw [PerChan.get_map]; rfl
  | timing i v mode => exact ⟨users.quiet, fun hm => by rw [show State.mode _ = s.mode from rfl, mode] at hm; simp at hm, users.released⟩
  | desc c i v => exact ⟨chans (State.busy_setChan (by rfl)), users.active, users.released⟩
  | bringup released mode =>
    exact ⟨.inr (users.quiet.resolve_left (by rw [mode]; nofun)), by simp, fun hr => absurd (released.symm.trans hr) nofun⟩
  | warmedUp mode => exact ⟨.inl rfl, by simp, reset mode nofun⟩
  | hold mode quiet active => exact ⟨.inr fun c => (quiet c).1, fun _ => active, reset mode nofun⟩
  | held mode => exact ⟨.inr (users.quiet.resolve_left (by rw [mode]; nofun)), fun _ => users.active (.inl mode), reset mode nofun⟩
  | wake mode =>
    exact ⟨.inr (users.quiet.resolve_left (by rw [mode]; nofun)), fun _ => users.active (.inr (.inl mode)), reset mode nofun⟩
  | woken mode => exact ⟨.inl rfl, by simp, reset mode nofun⟩
  | quiesce mode => exact ⟨.inr s.clearTraffic_chan, by simp, reset mode nofun⟩
  | quiesced mode => exact ⟨.inl rfl, by simp, reset mode nofun⟩
  | precharge b => exact ⟨users.quiet, lane rfl, users.released⟩
  | post c => exact ⟨chans (State.busy_setChan (by rfl)), users.active, users.released⟩
  | withdraw c => exact ⟨chans (State.busy_setChan (by rfl)), users.active, users.released⟩
  | start c mode => exact ⟨.inl mode, users.active, users.released⟩
  | grant a a' r b => exact ⟨users.quiet, lane rfl, users.released⟩
  | word a r b => exact ⟨chans (s.moveWord_busy r), users.active, users.released⟩
  | suspend a r b => exact ⟨users.quiet, lane rfl, users.released⟩
  | complete a r b => exact ⟨chans (s.moveWord_busy r), lane rfl, users.released⟩
  | remove a r b =>
    exact ⟨chans fun c => (State.clearWaiting_busy _ r c).trans (s.moveWord_busy r c), lane rfl, users.released⟩
  | fetch c => exact ⟨chans (State.busy_setChan (by rfl)), users.active, users.released⟩
  | captured c => exact ⟨chans (State.busy_setChan (by rfl)), users.active, users.released⟩
  | _ => exact ⟨users.quiet, users.active, users.released⟩

/-- A move of a lane neither takes nor gives the data path. -/
theorem BankLane.Moves.transferring {l l' : BankLane} {m : Mode} (h : l.Moves m l') :
    l'.state = .transferring ↔ l.state = .transferring := by
  cases h with
  | counts l' state => rw [state]
  | passes l' state =>
    obtain ⟨⟨noRow, _⟩, noRow', _⟩ := state.rowless
    exact iff_of_false (fun h => by rw [h] at noRow'; cases noRow') fun h => by rw [h] at noRow; cases noRow
  | opens r state | closes state => rw [state]; exact iff_of_false nofun nofun

/-- The data path stays where no record comes to it or leaves it, and no bank. -/
theorem State.PathLaw.of {s t : State} (h : s.PathLaw) (queue : holders t.queue = holders s.queue)
    (lanes : ∀ b, (t.bank b).state = .transferring ↔ (s.bank b).state = .transferring) : t.PathLaw :=
  ⟨queue ▸ h.one, fun b => by rw [queue]; exact (lanes b).trans (h.grant b)⟩

/-- A joining record that is not ACTIVE is no holder. -/
theorem holders_join (q : List Record) {r : Record} (hr : r.state ≠ .active) : holders (q ++ [r]) = holders q := by
  rw [holders_append, holders_cons_of_ne hr]
  exact List.append_nil _

/-- A grant passes older records over without a change of their states. -/
theorem holders_passedOver {a a' : List Record} (h : List.Forall₂ (fun p p' => p' = p ∨ p' = p.bypassed) a a') :
    holders a' = holders a := by
  induction h with
  | nil => rfl
  | @cons p p' _ _ hp _ ih =>
    have same : p'.state = p.state ∧ p'.bank = p.bank := by rcases hp with rfl | rfl <;> exact ⟨rfl, rfl⟩
    by_cases hactive : p.state = .active
    · rw [holders_cons_active hactive, holders_cons_active (same.1.trans hactive), same.2, ih]
    · rw [holders_cons_of_ne hactive, holders_cons_of_ne (same.1 ▸ hactive), ih]

/-- With the path free no record is ACTIVE. -/
theorem State.PathLaw.free {s : State} (h : s.PathLaw) (free : s.pathFree = true) : holders s.queue = [] :=
  List.eq_nil_iff_forall_not_mem.mpr fun b hb => s.pathFree_iff.mp free b ((h.grant b).mpr hb)

/-- Every change keeps one record in flight at most, and its bank alone TRANSFERRING (R26). -/
theorem Change.pathLaw {s t : State} (h : Change s t) (hs : s.Agrees) : t.PathLaw := by
  have path := hs.path
  have lane {b : Bank} {l : BankLane} (hl : l.state = .transferring ↔ (s.bank b).state = .transferring) (b' : Bank) :
      ((s.banks.set b l).get b').state = .transferring ↔ (s.bank b').state = .transferring := by
    by_cases hb : b' = b
    · rw [hb, PerBank.get_set_same]; exact hl
    · rw [PerBank.get_set_other _ _ hb]; rfl
  have same (b : Bank) : (s.bank b).state = .transferring ↔ (s.bank b).state = .transferring := Iff.rfl
  have gone {a b : List Record} {r : Record} (hq : s.queue = a ++ r :: b) (active : r.state = .active) :
      holders (a ++ b) = [] := by
    obtain ⟨ha, hb⟩ := path.around hq active
    rw [holders_append, ha, hb]; rfl
  have left {a b : List Record} {r : Record} {t : State} (hq : s.queue = a ++ r :: b) (active : r.state = .active)
      (hqueue : holders t.queue = []) (hbanks : t.banks = s.banks.set r.bank ((s.bank r.bank).enter .rowOpen)) : t.PathLaw := by
    refine ⟨by rw [hqueue]; exact Nat.zero_le 1, fun b' => ?_⟩
    rw [hqueue, State.bank, hbanks]
    exact path.leaves (st := .rowOpen) hq active nofun b'
  cases h with
  | aside t core => exact (hs.of_core core).path
  | lanes f moves => exact path.of rfl fun b => (moves b).transferring
  | reset => exact ⟨Nat.zero_le _, fun b => iff_of_false (by cases b <;> nofun) nofun⟩
  | timing i v mode =>
    have still {t : State} (fits : t.LanesFit) (hm : t.mode = .setup) (b : Bank) : (t.bank b).state ≠ .transferring := fun h => by
      have := (fits b).allowed
      rw [hm, h] at this
      cases this
    refine path.of rfl fun b => iff_of_false ?_ (still hs.lanes mode b)
    exact still ((Change.timing i v mode).lanesFit hs.lanes) mode b
  | woken mode =>
    refine path.of rfl fun b => ?_
    show BankLane.state ((s.banks.map _).get b) = .transferring ↔ _
    rw [PerBank.get_map]
    split
    · next hheld => exact iff_of_false nofun (by rw [show (s.bank b).state = .held from hheld]; nofun)
    · exact Iff.rfl
  | quiesce => exact path.of (holders_filter (fun r hr => by simp [hr]) _) same
  | drop b => exact path.of (holders_map (fun r => by split <;> exact ⟨rfl, Iff.rfl⟩) _) same
  | select b line i => exact path.of (s.holders_select line i) same
  | precharge b isOpen =>
    exact path.of (holders_map (fun r => by split <;> exact ⟨rfl, Iff.rfl⟩) _) (lane (by rw [isOpen]; exact iff_of_false nofun nofun))
  | joinRead => exact path.of (holders_join _ nofun) same
  | joinWrite => exact path.of (holders_join _ nofun) same
  | joinByte => exact path.of (holders_join _ nofun) same
  | post => exact path.of (holders_join _ nofun) same
  | stage =>
    refine path.of (holders_map (fun r => ?_) _) same
    split
    · next hr => exact ⟨rfl, iff_of_false nofun (by rw [hr.2]; nofun)⟩
    · exact ⟨rfl, Iff.rfl⟩
  | age c => exact path.of (holders_map (fun r => by unfold Record.aged; split <;> exact ⟨rfl, Iff.rfl⟩) _) same
  | withdraw c => exact path.of (holders_filter (fun r hr => by simp [Record.removable, hr]) _) same
  | cancel => exact path.of (holders_filter (fun r hr => by simp [Record.cancellable, hr]) _) same
  | grant a a' r b hq free isOpen selected older =>
    have none := path.free free
    rw [hq, holders_append, List.append_eq_nil_iff] at none
    obtain ⟨hnone, hrest⟩ := none
    have rest : holders b = [] := by
      by_cases hactive : r.state = .active
      · rw [holders_cons_active hactive] at hrest; cases hrest
      · rwa [holders_cons_of_ne hactive] at hrest
    have only : holders (a' ++ { r with state := .active, selected := none } :: b) = [r.bank] := by
      rw [holders_append, holders_passedOver older, hnone, holders_cons_active rfl, rest]; rfl
    refine ⟨by rw [only]; exact le_refl 1, fun b' => ?_⟩
    rw [only, List.mem_singleton]
    show ((s.banks.set r.bank _).get b').state = .transferring ↔ _
    by_cases hb : b' = r.bank
    · rw [hb, PerBank.get_set_same]; exact iff_of_true rfl rfl
    · rw [PerBank.get_set_other _ _ hb]; exact iff_of_false (s.pathFree_iff.mp free b') hb
  | word a r b bad hq active =>
    refine path.of ?_ same
    rw [hq, holders_append, holders_append, holders_cons_active active, holders_cons_active (r := r.wordDone bad) active]
    rfl
  | suspend a r b hq active =>
    refine left hq active ?_ rfl
    rw [holders_append, holders_cons_of_ne (r := { r with state := .resumable }) nofun, ← holders_append, gone hq active]
  | complete a r b bad hq active => exact left hq active (gone hq active) rfl
  | remove a r b hq active => exact left hq active (gone hq active) rfl
  | _ => exact path.of rfl same

/-- Every change keeps the agreement of modes, banks, queue and data path. -/
theorem Change.agrees {s t : State} (h : Change s t) (hs : s.Agrees) : t.Agrees :=
  ⟨h.lanesFit hs.lanes, h.queueOk hs, h.actionOk hs, h.usersLaw hs, h.pathLaw hs⟩

/-- A law that every change keeps holds at the end of a chain of changes. -/
theorem Changes.keeps {P : State → Prop} (keeps : ∀ {s t}, Change s t → P s → P t) {s t : State} (h : Changes s t) (hs : P s) :
    P t := by
  unfold Changes at h
  induction h with
  | refl => exact hs
  | tail _ last ih => exact keeps last ih

/-- A law that every change keeps holds after every step. -/
theorem step_keeps {P : State → Prop} (keeps : ∀ {s t}, Change s t → P s → P t) {s t : State} (hs : P s) (h : step s = .next t) :
    P t :=
  (step_changes h).keeps keeps hs

/-- Settles O59, by the kinds of change that the steps are made of. -/
theorem everyStepKeepsModesBanksAndQueueInAgreement : Obligations.EveryStepKeepsModesBanksAndQueueInAgreement := fun s t hs h =>
  t.control_iff.mpr (step_keeps Change.agrees (s.control_iff.mp hs) h)

end Sys2Proof.Machine
end

section
/-! What a change does to the records of the queue, and the limits on records and channels that every change keeps by itself. -/

namespace Sys2Proof.Machine

/-! ### The records of the queue through a change -/

/-- What a change does to one record that stays in the queue. -/
inductive Record.Moves (r : Record) : Record → Prop
  | stays : Moves r r
  | dropped : Moves r { r with selected := none }
  | chosen (line : ChoiceLine) (state : r.state = .waiting ∨ r.state = .resumable) : Moves r { r with selected := some line }
  | ages (c : Chan) : Moves r (r.aged c)
  | passed : Moves r r.bypassed
  | granted : Moves r { r with state := .active, selected := none }
  | works (bad : Bool) (active : r.state = .active) (more : r.done + 1 < r.count) : Moves r (r.wordDone bad)
  | suspends (active : r.state = .active) (started : 1 ≤ r.done) : Moves r { r with state := .resumable }
  | staged (source : r.source = .host) (staging : r.state = .staging) : Moves r { r with state := .waiting }

/-- The records that join the queue. -/
inductive Record.Joins (s : State) : Record → Prop
  | read (ok : (s.regs.transferRecord .read .waiting).ok = true) : Joins s (s.regs.transferRecord .read .waiting)
  | write (ok : (s.regs.transferRecord .write .staging).ok = true) : Joins s (s.regs.transferRecord .write .staging)
  | byte : Joins s s.regs.byteRecord
  | burst (c : Chan) (running : (s.chan c).state = .running) : Joins s ((s.chan c).burstRecord c)

theorem modify_length_append {α : Type} (f : α → α) (a : List α) (r : α) (c : List α) :
    (a ++ r :: c).modify a.length f = a ++ f r :: c := by
  induction a with
  | nil => rfl
  | cons x a ih => simp [ih]

/-- Every record after a change has moved from one before it, or joins. -/
theorem Change.record {s t : State} (h : Change s t) : ∀ r' ∈ t.queue, (∃ r ∈ s.queue, r.Moves r') ∨ r'.Joins s := by
  have kept {q : List Record} (hq : ∀ r ∈ q, r ∈ s.queue) : ∀ r' ∈ q, (∃ r ∈ s.queue, r.Moves r') ∨ r'.Joins s := fun r hr =>
    .inl ⟨r, hq r hr, .stays⟩
  have filtered (p : Record → Bool) : ∀ r' ∈ s.queue.filter p, (∃ r ∈ s.queue, r.Moves r') ∨ r'.Joins s :=
    kept fun r hr => List.mem_of_mem_filter hr
  have mapped {f : Record → Record} (hf : ∀ r ∈ s.queue, r.Moves (f r)) :
      ∀ r' ∈ s.queue.map f, (∃ r ∈ s.queue, r.Moves r') ∨ r'.Joins s := by
    intro r' hr'
    obtain ⟨r, hr, rfl⟩ := List.mem_map.mp hr'
    exact .inl ⟨r, hr, hf r hr⟩
  have joined {r : Record} (hr : r.Joins s) : ∀ r' ∈ s.queue ++ [r], (∃ r ∈ s.queue, r.Moves r') ∨ r'.Joins s := by
    intro r' hr'
    rcases List.mem_append.mp hr' with hr' | hr'
    · exact .inl ⟨r', hr', .stays⟩
    · exact .inr (List.mem_singleton.mp hr' ▸ hr)
  have around {a b a' : List Record} {r r' : Record} (hq : s.queue = a ++ r :: b) (hr : r.Moves r')
      (ha : ∀ p' ∈ a', ∃ p ∈ a, p.Moves p') : ∀ p' ∈ a' ++ r' :: b, (∃ p ∈ s.queue, p.Moves p') ∨ p'.Joins s := by
    intro p' hp'
    rw [hq]
    rcases List.mem_append.mp hp' with hp' | hp'
    · obtain ⟨p, hp, hmoves⟩ := ha p' hp'
      exact .inl ⟨p, List.mem_append_left _ hp, hmoves⟩
    · rcases List.mem_cons.mp hp' with rfl | hp'
      · exact .inl ⟨r, by simp, hr⟩
      · exact .inl ⟨p', by simp [hp'], .stays⟩
  have self (a : List Record) : ∀ p' ∈ a, ∃ p ∈ a, p.Moves p' := fun p' hp' => ⟨p', hp', .stays⟩
  have gone {a b : List Record} {r : Record} (hq : s.queue = a ++ r :: b) : ∀ p ∈ a ++ b, p ∈ s.queue := fun p hp => by
    rw [hq]; exact ((List.sublist_cons_self r b).append_left a).subset hp
  have droppedBy (b : Bank) : ∀ r ∈ s.queue, r.Moves (if r.bank = b then { r with selected := none } else r) := fun r _ => by
    split
    · exact .dropped
    · exact .stays
  cases h with
  | aside t core =>
    exact kept fun r hr => by
      rwa [show t.queue = s.queue from (congrArg State.queue core : t.core.queue = s.core.queue)] at hr
  | reset => exact fun r' hr' => (List.not_mem_nil (show r' ∈ [] from hr')).elim
  | quiesce => exact filtered _
  | drop b => exact mapped (droppedBy b)
  | select b line i r place _ state =>
    intro r' hr'
    rw [State.select_queue] at hr'
    obtain ⟨a, c, hq, rfl⟩ := exists_split_of_getElem? place
    rw [hq, modify_length_append] at hr'
    exact around hq (.chosen line state) (self a) r' hr'
  | precharge b => exact mapped (droppedBy b)
  | joinRead _ _ _ _ ok => exact joined (.read ok)
  | joinWrite _ _ _ ok => exact joined (.write ok)
  | joinByte => exact joined .byte
  | post c running => exact joined (.burst c running)
  | stage =>
    refine mapped fun r _ => ?_
    split
    · next hstaged => exact .staged hstaged.1 hstaged.2
    · exact .stays
  | age c => exact mapped fun r _ => .ages c
  | withdraw c => exact filtered _
  | cancel => exact filtered _
  | grant a a' r b hq _ _ _ older =>
    refine around hq .granted fun p' hp' => ?_
    obtain ⟨p, hp, rfl | rfl⟩ := exists_of_passedOver older hp'
    · exact ⟨_, hp, .stays⟩
    · exact ⟨p, hp, .passed⟩
  | word a r b bad hq active more => exact around hq (.works bad active more) (self a)
  | suspend a r b hq active _ started => exact around hq (.suspends active started) (self a)
  | complete a r b bad hq => exact kept (gone hq)
  | remove a r b hq => exact kept (gone hq)
  | _ => exact kept fun r hr => hr

/-! ### The bypass counts (R70, R87) -/

/-- Every change keeps the limit on the bypass counts. -/
theorem Change.bypassLimits {s t : State} (h : Change s t) (hs : s.bypassLimits = true) : t.bypassLimits = true := by
  simp only [State.bypassLimits, List.all_eq_true, decide_eq_true_eq] at hs ⊢
  intro r' hr'
  rcases h.record r' hr' with ⟨r, hr, moves⟩ | joins
  · have bound := hs r hr
    cases moves with
    | ages c => unfold Record.aged; split <;> exact bound
    | passed => exact Nat.min_le_left 8 _
    | _ => exact bound
  · cases joins <;> exact Nat.zero_le 8

/-! ### The fields of the records (R70, R71) -/

theorem Record.Law.aged {r : Record} (h : r.Law) (c : Chan) : (r.aged c).Law := by
  unfold Record.aged
  split
  · next hsource =>
    refine ⟨h.nonempty, h.short, h.more, h.state, ?_, h.byte, h.single, h.selected⟩
    have source := h.source
    simp only [Record.sourceOk, hsource] at source ⊢
    cases hticks : r.ticksLeft with
    | none => simp [hticks] at source
    | some n =>
      simp only [hticks, Bool.and_eq_true, decide_eq_true_eq, Option.map_some, lowerTicks] at source ⊢
      exact ⟨by omega, source.2⟩
  · exact h

/-- A record that moves keeps its law. -/
theorem Record.Moves.law {r r' : Record} (h : r.Moves r') (hr : r.Law) : r'.Law := by
  cases h with
  | stays => exact hr
  | dropped => exact ⟨hr.nonempty, hr.short, hr.more, hr.state, hr.source, hr.byte, hr.single, .inl rfl⟩
  | chosen line state => exact ⟨hr.nonempty, hr.short, hr.more, hr.state, hr.source, hr.byte, hr.single, .inr state⟩
  | ages c => exact hr.aged c
  | passed => exact ⟨hr.nonempty, hr.short, hr.more, hr.state, hr.source, hr.byte, hr.single, hr.selected⟩
  | granted => exact ⟨hr.nonempty, hr.short, hr.more, rfl, hr.source, hr.byte, hr.single, .inl rfl⟩
  | works bad active more =>
    refine ⟨hr.nonempty, hr.short, more, ?_, hr.source, hr.byte, hr.single, hr.selected⟩
    simp [Record.stateOk, Record.wordDone, active]
  | suspends active started =>
    exact ⟨hr.nonempty, hr.short, hr.more, decide_eq_true started, hr.source, hr.byte, hr.single, .inr (.inr rfl)⟩
  | staged source staging =>
    have waits : (r.done == 0) = true := beq_iff_eq.mpr (hr.staging staging).1
    exact ⟨hr.nonempty, hr.short, hr.more, waits, hr.source, hr.byte, hr.single, .inr (.inl rfl)⟩

/-- A burst of a channel whose descriptor is in range (R114, R127). -/
theorem Channel.burstRecord_law {s : State} {x : Channel} (h : s.descRangeFails x = false) (c : Chan) : (x.burstRecord c).Law := by
  simp only [State.descRangeFails, Bool.or_eq_false_iff, Bool.not_eq_false', Bool.and_eq_true, decide_eq_true_eq] at h
  obtain ⟨⟨⟨⟨⟨_, hburst⟩, hallowance⟩, _⟩, _⟩, _⟩ := h
  refine ⟨hburst.1, hburst.2, hburst.1, rfl, ?_, ?_, ?_, .inl rfl⟩
  · simp only [Record.sourceOk, Channel.burstRecord, Bool.and_eq_true, decide_eq_true_eq]
    exact ⟨hallowance.2, by cases x.direction <;> rfl⟩
  · cases hx : x.direction <;> simp [Channel.burstRecord, hx]
  · cases hx : x.direction <;> simp [Channel.burstRecord, hx]

/-- Every change keeps the fields of the records, where the descriptors of RUNNING channels are in range. -/
theorem Change.recordsOk {s t : State} (h : Change s t) (hs : s.recordsOk = true)
    (range : ∀ c, (s.chan c).state = .running → s.descRangeFails (s.chan c) = false) : t.recordsOk = true := by
  rw [State.recordsOk_iff] at hs ⊢
  intro r' hr'
  rcases h.record r' hr' with ⟨r, hr, moves⟩ | joins
  · exact moves.law (hs r hr)
  · cases joins with
    | read ok => exact (Record.ok_iff _).mp ok
    | write ok => exact (Record.ok_iff _).mp ok
    | byte => exact (Record.ok_iff _).mp rfl
    | burst c running => exact Channel.burstRecord_law (range c running) c

end Sys2Proof.Machine
end

section
/-! What the operations on channels do to each channel, and the limits on lists and counters that every change keeps by itself. -/

namespace Sys2Proof.Machine

/-! ### Channels through the operations on them -/

/-- A channel once a word of one of its records has moved (R28). -/
def Channel.wordMoved (x : Channel) (k : Kind) (d : Data) : Channel :=
  match k with
  | .read => { x with fifo := x.fifo ++ [d], reserved := x.reserved - 1 }
  | .write => { x with fifo := x.fifo.tail, claimed := x.claimed - 1 }
  | .byteWrite => x

/-- A channel with its FIFO flushed (R122, R135). -/
def Channel.flushed (x : Channel) : Channel := { x with fifo := [], reserved := 0, claimed := 0 }

theorem State.chan_setChan (s : State) (c c' : Chan) (x : Channel) : (s.setChan c x).chan c' = if c' = c then x else s.chan c' := by
  split
  · next h => rw [h]; exact s.chan_setChan_same c x
  · next h => exact s.chan_setChan_other x h

theorem Source.chan_eq_iff {c c' : Chan} : Source.chan c = .chan c' ↔ c' = c := by
  rw [Source.chan.injEq]; exact eq_comm

/-- The movement of a word changes its channel alone. -/
theorem State.moveWord_chan (s : State) (r : Record) (c : Chan) :
    (s.moveWord r).chan c = if r.source = .chan c then (s.chan c).wordMoved r.kind (s.wordAt r).data else s.chan c := by
  unfold State.moveWord
  cases hkind : r.kind with
  | read | write =>
    cases hsource : r.source with
    | host => rfl
    | chan d =>
      simp only [State.deliver, State.takeWord, State.chan_setChan, Source.chan_eq_iff]
      split
      · next h => rw [h]; rfl
      · rfl
  | byteWrite =>
    have same : (if r.source = .chan c then (s.chan c).wordMoved .byteWrite (s.wordAt r).data else s.chan c) = s.chan c := by
      split <;> rfl
    rw [same]
    dsimp only
    split
    · rfl
    · split <;> rfl

theorem State.flushFifo_chan (s : State) (c c' : Chan) :
    (s.flushFifo c).chan c' = if c' = c then (s.chan c).flushed else s.chan c' := s.chan_setChan c c' _

/-- What waited for the removal of a channel's record is its FIFO. -/
theorem State.clearWaiting_chan (s : State) (r : Record) (c : Chan) :
    (s.clearWaiting r).chan c = if r.source = .chan c then (s.chan c).flushed else s.chan c := by
  unfold State.clearWaiting
  cases r.source with
  | host => cases r.kind <;> rfl
  | chan d =>
    simp only [State.flushFifo_chan, Source.chan_eq_iff]
    split
    · next h => rw [h]
    · rfl

/-- The channel that starts is flushed and RUNNING afresh. -/
theorem State.startChan_chan (s : State) (c c' : Chan) :
    (s.startChan c).chan c' = if c' = c then (s.chan c).flushed.cleared .running else s.chan c' := by
  unfold State.startChan
  simp only [State.chan_setChan, State.flushFifo_chan]
  split <;> rfl

/-- A channel through a traffic reset: IDLE, flushed unless its record is in flight (R135). -/
def State.afterTrafficReset (s : State) (c : Chan) : Channel :=
  { (if s.chanInFlight c then s.chan c else (s.chan c).flushed).cleared .idle with request := .quiet }

theorem State.resetChan_chan (s : State) (c c' : Chan) :
    (s.resetChan c).chan c' = if c' = c then s.afterTrafficReset c else s.chan c' := by
  by_cases h : c' = c
  · rw [if_pos h, h]
    unfold State.resetChan State.afterTrafficReset
    simp only [State.chan_setChan_same]
    split
    · rfl
    · rw [State.flushFifo_chan, if_pos rfl]
  · rw [if_neg h, State.resetChan_other _ h]

theorem State.resetChan_queue (s : State) (c : Chan) : (s.resetChan c).queue = s.queue := by rw [s.resetChan_frame c]

theorem State.afterTrafficReset_of {s t : State} {c : Chan} (hq : t.queue = s.queue) (hx : t.chan c = s.chan c) :
    t.afterTrafficReset c = s.afterTrafficReset c := by
  unfold State.afterTrafficReset State.chanInFlight
  rw [hq, hx]

theorem State.clearTraffic_chan_eq (s : State) (c : Chan) : s.clearTraffic.chan c = s.afterTrafficReset c := by
  show (((s.resetChan .c0).resetChan .c1).resetChan .c2).chan c = _
  have later (t : State) (d : Chan) (h : c ≠ d) : (t.resetChan d).chan c = t.chan c := by rw [State.resetChan_chan, if_neg h]
  have own (t : State) (hq : t.queue = s.queue) (hx : t.chan c = s.chan c) : (t.resetChan c).chan c = s.afterTrafficReset c := by
    rw [State.resetChan_chan, if_pos rfl, State.afterTrafficReset_of hq hx]
  cases c with
  | c0 => rw [later _ .c2 nofun, later _ .c1 nofun, own _ rfl rfl]
  | c1 => rw [later _ .c2 nofun, own _ (State.resetChan_queue ..) (later _ .c0 nofun)]
  | c2 =>
    rw [own]
    · rw [State.resetChan_queue, State.resetChan_queue]
    · rw [later _ .c1 nofun, later _ .c0 nofun]

/-- After a reset every channel is as `Channel.afterReset` says, in whatever state has those channels. -/
theorem State.chan_of_reset {s t : State} (h : t.chans = s.resetItems.chans) (c : Chan) : t.chan c = (s.chan c).afterReset := by
  unfold State.chan
  rw [h]
  exact PerChan.get_map _ s.chans c

/-! ### The counters of the channels (R117) -/

theorem State.channelLimits_iff (s : State) : s.channelLimits = true ↔ ∀ c, (s.chan c).late ≤ 15 ∧ (s.chan c).slips ≤ 255 := by
  unfold State.channelLimits
  simp only [Chan.all_iff, Bool.and_eq_true, decide_eq_true_eq]

/-- Every change keeps the limits on the late and slip counts. -/
theorem Change.channelLimits {s t : State} (h : Change s t) (hs : s.channelLimits = true) : t.channelLimits = true := by
  have reset {x : Channel} (hl : x.late = 0) (hsl : x.slips = 0) : x.late ≤ 15 ∧ x.slips ≤ 255 := by omega
  have given := s.channelLimits_iff.mp hs
  have one {c : Chan} {x : Channel} (hl : x.late = (s.chan c).late) (hsl : x.slips = (s.chan c).slips) (c' : Chan) :
      ((s.chans.set c x).get c').late ≤ 15 ∧ ((s.chans.set c x).get c').slips ≤ 255 :=
    PerChan.forall_set (P := fun _ (x : Channel) => x.late ≤ 15 ∧ x.slips ≤ 255) (hl ▸ hsl ▸ given c) (fun c' _ => given c') c'
  have moved (r : Record) (c : Chan) : ((s.moveWord r).chan c).late ≤ 15 ∧ ((s.moveWord r).chan c).slips ≤ 255 := by
    rw [State.moveWord_chan]
    unfold Channel.wordMoved
    split
    · split <;> exact given c
    · exact given c
  rw [State.channelLimits_iff]
  cases h with
  | aside t core =>
    exact t.channelLimits_iff.mp (show t.core.channelLimits = true by rw [core]; exact hs)
  | chans f moves => exact fun c => ⟨(moves c).late (given c).1, (moves c).slips (given c).2⟩
  | reset =>
    intro c
    have fresh {x : Channel} (hx : x = (s.chan c).afterReset) : x.late ≤ 15 ∧ x.slips ≤ 255 := hx ▸ reset rfl rfl
    exact fresh (State.chan_of_reset rfl c)
  | desc c i v => exact one (by rfl) (by rfl)
  | quiesce =>
    intro c
    show (s.clearTraffic.chan c).late ≤ 15 ∧ (s.clearTraffic.chan c).slips ≤ 255
    rw [State.clearTraffic_chan_eq]
    exact reset rfl rfl
  | post c => exact one (by rfl) (by rfl)
  | withdraw c => exact one (by rfl) (by rfl)
  | start c =>
    intro c'
    rw [State.startChan_chan]
    split
    · exact reset rfl rfl
    · exact given c'
  | word a r b => exact moved r
  | complete a r b => exact moved r
  | remove a r b =>
    intro c
    show (((s.leaves a r b).clearWaiting r).chan c).late ≤ 15 ∧ (((s.leaves a r b).clearWaiting r).chan c).slips ≤ 255
    rw [State.clearWaiting_chan]
    split <;> exact moved r c
  | fetch c => exact one (by rfl) (by rfl)
  | captured c => exact one (by rfl) (by rfl)
  | _ => exact given

/-! ### The debts of the banks (R43) -/

theorem State.debtLimits_iff (s : State) : s.debtLimits = true ↔ ∀ b, (s.bank b).debt ≤ 15 := by
  unfold State.debtLimits
  simp only [Bank.all_iff, decide_eq_true_eq]

theorem BankLane.Moves.debt {l l' : BankLane} {m : Mode} (h : l.Moves m l') (hl : l.debt ≤ 15) : l'.debt ≤ 15 := by
  cases h with
  | counts l' _ _ _ _ debt => exact debt hl
  | passes l' _ _ debt => exact le_trans debt hl
  | opens | closes => exact hl

/-- A write of the timing table leaves or clears each debt (R14). -/
theorem State.storeTiming_debt (s : State) (i : Nat) (v : Byte) (b : Bank) (hb : (s.bank b).debt ≤ 15) :
    ((s.storeTiming i v).bank b).debt ≤ 15 := by
  by_cases hpol : i = 10
  · rw [hpol, s.storeTiming_pagePol v]
    show BankLane.debt ((s.banks.map _).get b) ≤ 15
    rw [PerBank.get_map]
    exact hb
  · by_cases hpres : i = 11
    · rw [hpres, s.storeTiming_present v]
      show BankLane.debt ((s.banks.map _).get b) ≤ 15
      rw [PerBank.get_map]
      unfold BankLane.afterPresent
      split
      · exact hb
      · exact Nat.zero_le 15
    · rw [s.storeTiming_other v hpol hpres]
      exact hb

/-- Every change keeps the limit on the debts. -/
theorem Change.debtLimits {s t : State} (h : Change s t) (hs : s.debtLimits = true) : t.debtLimits = true := by
  have given := s.debtLimits_iff.mp hs
  have entered (b : Bank) (st : BankState) (b' : Bank) : ((s.banks.set b ((s.bank b).enter st)).get b').debt ≤ 15 :=
    PerBank.forall_set (P := fun _ (l : BankLane) => l.debt ≤ 15) (x := (s.bank b).enter st) (given b) (fun b' _ => given b') b'
  rw [State.debtLimits_iff]
  cases h with
  | aside t core =>
    exact t.debtLimits_iff.mp (show t.core.debtLimits = true by rw [core]; exact hs)
  | lanes f moves => exact fun b => (moves b).debt (given b)
  | reset =>
    intro b
    show ((PerBank.same BankLane.reset).get b).debt ≤ 15
    rw [PerBank.get_same]
    exact Nat.zero_le 15
  | timing i v => exact fun b => s.storeTiming_debt i v b (given b)
  | woken =>
    intro b
    show BankLane.debt ((s.banks.map _).get b) ≤ 15
    rw [PerBank.get_map]
    split
    · exact Nat.zero_le 15
    · exact given b
  | precharge b => exact entered b _
  | grant a a' r b => exact entered r.bank _
  | suspend a r b => exact entered r.bank _
  | complete a r b => exact entered r.bank _
  | remove a r b => exact entered r.bank _
  | _ => exact given

/-! ### The lists and the store (R57, R58, R157, R159) -/

/-- Every change keeps the limits of the fault list and FLTLOST. -/
theorem Change.faultLimits {s t : State} (h : Change s t) (hs : s.faultLimits = true) : t.faultLimits = true := by
  cases h with
  | aside t _ faults => exact faults hs
  | reset => rfl
  | _ => exact hs

theorem State.storeTiming_weak (s : State) (i : Nat) (v : Byte) : (s.storeTiming i v).weak.Sublist s.weak := by
  by_cases hpol : i = 10
  · rw [hpol, s.storeTiming_pagePol v]
  · by_cases hpres : i = 11
    · rw [hpres, s.storeTiming_present v]
      exact List.filter_sublist
    · rw [s.storeTiming_other v hpol hpres]

/-- Every change keeps the limits of the Weak Row List. -/
theorem Change.weakLimits {s t : State} (h : Change s t) (hs : s.weakLimits = true) : t.weakLimits = true := by
  cases h with
  | aside t _ _ weak => exact weak hs
  | reset => rfl
  | timing i v => exact s.weakLimits_sublist (s.storeTiming_weak i v) hs
  | _ => exact hs

/-- The movement of a word keeps the store in its canonical form. -/
theorem State.moveWord_wf (s : State) (r : Record) (hs : s.store.wf = true) : (s.moveWord r).store.wf = true := by
  unfold State.moveWord State.deliver State.takeWord
  split
  · split <;> exact hs
  · split <;> exact Store.write_wf hs ..
  · split
    · exact hs
    · split
      · exact Store.write_wf hs ..
      · exact hs

/-- Every change keeps the store in its canonical form. -/
theorem Change.wf {s t : State} (h : Change s t) (hs : s.store.wf = true) : t.store.wf = true := by
  cases h with
  | aside t _ _ _ store => exact store hs
  | reset store _ _ _ _ kept => exact kept hs
  | word a r b => exact s.moveWord_wf r hs
  | complete a r b => exact s.moveWord_wf r hs
  | remove a r b => exact s.moveWord_wf r hs
  | _ => exact hs

end Sys2Proof.Machine
end

section
/-! What the records of a queue still ask for, which changes leave it, and the limits of the queue. -/

namespace Sys2Proof.Machine

/-! ### The work of the records -/

/-- A record without all that says nothing of the words it has still to move: its state, urgency, ticks, bypass count, status and
selection. -/
def Record.work (r : Record) : Record :=
  { r with state := .waiting, urgent := false, ticksLeft := none, bypass := 0, status := .good, selected := none }

/-- Two queues of the same records with the same work. -/
def SameWork (q q' : List Record) : Prop := q'.map Record.work = q.map Record.work

theorem SameWork.map {f : Record → Record} (hf : ∀ r, (f r).work = r.work) (q : List Record) : SameWork q (q.map f) := by
  unfold SameWork
  rw [List.map_map]
  exact List.map_congr_left fun r _ => hf r

theorem SameWork.around {a a' b : List Record} {r r' : Record} (ha : SameWork a a') (hr : r'.work = r.work) :
    SameWork (a ++ r :: b) (a' ++ r' :: b) := by
  unfold SameWork at ha ⊢
  rw [List.map_append, List.map_append, List.map_cons, List.map_cons, ha, hr]

theorem State.sameWork_dropSelection (s : State) (b : Bank) : SameWork s.queue (s.dropSelection b).queue :=
  SameWork.map (fun r => by split <;> rfl) _

theorem State.sameWork_select (s : State) (line : ChoiceLine) (i : Nat) : SameWork s.queue (s.select line i).queue := by
  have bare (q : List Record) : q.map Record.work = (q.map Record.bare).map Record.work := by
    rw [List.map_map]; rfl
  unfold SameWork
  rw [bare, show (s.select line i).queue.map Record.bare = s.queue.map Record.bare from s.bareQueue_select line i, ← bare]

theorem Record.aged_work (c : Chan) (r : Record) : (r.aged c).work = r.work := by
  unfold Record.aged
  split <;> rfl

/-- The records passed over by a grant keep their work. -/
theorem SameWork.passedOver {a a' : List Record} (h : List.Forall₂ (fun p p' => p' = p ∨ p' = p.bypassed) a a') : SameWork a a' := by
  unfold SameWork
  induction h with
  | nil => rfl
  | cons hfirst _ ih =>
    rw [List.map_cons, List.map_cons, ih]
    rcases hfirst with rfl | rfl <;> rfl

/-- A record of a queue has the work of one of the other. -/
theorem SameWork.exists {q q' : List Record} (h : SameWork q q') {r' : Record} (hr' : r' ∈ q') : ∃ r ∈ q, r.work = r'.work := by
  have mem : r'.work ∈ q'.map Record.work := List.mem_map_of_mem hr'
  rw [h] at mem
  exact List.mem_map.mp mem

/-! ### The limits of the queue (R73) -/

/-- The source and kind of a record. -/
def Record.origin (r : Record) : Source × Kind := (r.source, r.kind)

/-- The limits of a queue, taken apart. -/
structure QueueLaw (q : List Record) : Prop where
  room : q.length ≤ 8
  reads : q.countP Record.isHostRead ≤ 1
  writes : q.countP Record.isHostWrite ≤ 1
  bursts : ∀ c, q.countP (·.source == .chan c) ≤ 3

theorem State.queueLimits_iff (s : State) : s.queueLimits = true ↔ QueueLaw s.queue := by
  unfold State.queueLimits
  simp only [Bool.and_eq_true, decide_eq_true_eq, Chan.all_iff]
  exact ⟨fun ⟨⟨⟨h1, h2⟩, h3⟩, h4⟩ => ⟨h1, h2, h3, h4⟩, fun ⟨h1, h2, h3, h4⟩ => ⟨⟨⟨h1, h2⟩, h3⟩, h4⟩⟩

/-- Records that are counted by what a function of them says are counted alike where it says the same. -/
theorem countP_of_map_eq {α β : Type} {f : α → β} {q q' : List α} (h : q'.map f = q.map f) (p : β → Bool) :
    q'.countP (p ∘ f) = q.countP (p ∘ f) := by
  rw [← List.countP_map, h, List.countP_map]

theorem QueueLaw.of_origin {q q' : List Record} (h : QueueLaw q) (hq : q'.map Record.origin = q.map Record.origin) : QueueLaw q' := by
  have length : q'.length = q.length := by simpa using congrArg List.length hq
  have count (p : Source × Kind → Bool) := countP_of_map_eq hq p
  refine ⟨length ▸ h.room, ?_, ?_, fun c => ?_⟩
  · exact (count fun o => o.1 == .host && o.2 == .read).trans_le h.reads
  · exact (count fun o => o.1 == .host && o.2 != .read).trans_le h.writes
  · exact (count fun o => o.1 == .chan c).trans_le (h.bursts c)

theorem QueueLaw.of_work {q q' : List Record} (h : QueueLaw q) (hq : SameWork q q') : QueueLaw q' := by
  have origin (q : List Record) : q.map Record.origin = (q.map Record.work).map Record.origin := by rw [List.map_map]; rfl
  exact h.of_origin (by rw [origin, hq, ← origin])

theorem QueueLaw.sublist {q q' : List Record} (h : QueueLaw q) (hq : q'.Sublist q) : QueueLaw q' :=
  ⟨hq.length_le.trans h.room, hq.countP_le.trans h.reads, hq.countP_le.trans h.writes, fun c => hq.countP_le.trans (h.bursts c)⟩

/-- A record joins where there is room for it. -/
theorem QueueLaw.join {q : List Record} (h : QueueLaw q) {r : Record} (room : q.length < 8)
    (reads : r.isHostRead = true → q.any Record.isHostRead = false) (writes : r.isHostWrite = true → q.any Record.isHostWrite = false)
    (bursts : ∀ c, r.source = .chan c → q.countP (·.source == .chan c) < 3) : QueueLaw (q ++ [r]) := by
  have one {p : Record → Bool} (hp : q.countP p ≤ 1) (h : p r = true → q.any p = false) : (q ++ [r]).countP p ≤ 1 := by
    rw [List.countP_append, List.countP_singleton]
    split
    · next hr =>
      have none : q.countP p = 0 := by simpa [List.countP_eq_zero] using h hr
      omega
    · exact hp
  refine ⟨by rw [List.length_append, List.length_singleton]; omega, one h.reads reads, one h.writes writes, fun c => ?_⟩
  rw [List.countP_append, List.countP_singleton]
  have given := h.bursts c
  split
  · next hr =>
    have := bursts c (beq_iff_eq.mp hr)
    omega
  · exact given

/-- What a burst that is posted finds (R126, R127). -/
theorem State.slipReason_none {s : State} {c : Chan} (h : s.slipReason c = none) :
    s.outstanding c < 3 ∧ s.queue.length < 8 ∧
      ((s.chan c).direction = .fetch → (s.chan c).burst ≤ 64 - (s.chan c).held - (s.chan c).reserved) ∧
      ((s.chan c).direction = .deposit → (s.chan c).burst ≤ (s.chan c).held - (s.chan c).claimed) := by
  unfold State.slipReason at h
  simp only at h
  split at h
  · cases h
  · next backlog =>
    split at h
    · cases h
    · next full =>
      refine ⟨Nat.not_le.mp backlog, Nat.not_le.mp full, ?_⟩
      cases hd : (s.chan c).direction <;> simpa [hd] using h

/-- Every change keeps the limits of the queue (R73). -/
theorem Change.queueLaw {s t : State} (h : Change s t) (hs : QueueLaw s.queue) : QueueLaw t.queue := by
  cases h with
  | aside t core =>
    show QueueLaw t.core.queue
    rw [core]; exact hs
  | reset => exact ⟨Nat.zero_le 8, Nat.zero_le 1, Nat.zero_le 1, fun _ => Nat.zero_le 3⟩
  | quiesce => exact hs.sublist List.filter_sublist
  | drop b => exact hs.of_work (s.sameWork_dropSelection b)
  | select b line i => exact hs.of_work (s.sameWork_select line i)
  | precharge b => exact hs.of_work (s.sameWork_dropSelection b)
  | joinRead mode room free => exact hs.join room (fun _ => free) nofun nofun
  | joinWrite mode room free => exact hs.join room nofun (fun _ => free) nofun
  | joinByte mode room free => exact hs.join room nofun (fun _ => free) nofun
  | post c _ accepted =>
    obtain ⟨backlog, room, _⟩ := s.slipReason_none accepted
    refine hs.join room nofun nofun fun c' hc => ?_
    rw [Source.chan_eq_iff.mp hc]
    exact backlog
  | stage => exact hs.of_work (SameWork.map (fun r => by split <;> rfl) _)
  | age c => exact hs.of_work (SameWork.map (Record.aged_work c) _)
  | withdraw c => exact hs.sublist List.filter_sublist
  | cancel => exact hs.sublist List.filter_sublist
  | grant a a' r b hq _ _ _ older => exact hs.of_work (hq ▸ SameWork.around (SameWork.passedOver older) (by rfl))
  | word a r b bad hq =>
    refine hs.of_origin ?_
    rw [hq, List.map_append, List.map_append]
    rfl
  | suspend a r b hq => exact hs.of_work (hq ▸ SameWork.around (a := a) (by rfl) (by rfl))
  | complete a r b bad hq => exact hs.sublist (hq ▸ (List.sublist_cons_self r b).append_left a)
  | remove a r b hq => exact hs.sublist (hq ▸ (List.sublist_cons_self r b).append_left a)
  | _ => exact hs

/-- Every change keeps the limits of the queue. -/
theorem Change.queueLimits {s t : State} (h : Change s t) (hs : s.queueLimits = true) : t.queueLimits = true :=
  t.queueLimits_iff.mpr (h.queueLaw (s.queueLimits_iff.mp hs))

end Sys2Proof.Machine
end

section
/-! The words that a channel's records have still to move, and the law of its FIFO, taken apart. -/

namespace Sys2Proof.Machine

/-! ### The words owed -/

/-- The words that a record has still to move for a channel, if it is of the channel and the kind. -/
def Record.owes (c : Chan) (k : Kind) (r : Record) : Nat := if r.source = .chan c ∧ r.kind = k then r.count - r.done else 0

/-- The words that the records of a queue have still to move for a channel. -/
def owedIn (q : List Record) (c : Chan) (k : Kind) : Nat := (q.map (Record.owes c k)).sum

/-- The number of a channel's records in a queue. -/
def recordsOf (q : List Record) (c : Chan) : Nat := q.countP (·.source == .chan c)

theorem State.owed_eq (s : State) (c : Chan) (k : Kind) : s.owed c k = owedIn s.queue c k := by
  unfold State.owed owedIn
  induction s.queue with
  | nil => rfl
  | cons r q ih =>
    rw [List.filter_cons, List.map_cons, List.sum_cons, ← ih]
    by_cases h : r.source = .chan c ∧ r.kind = k
    · rw [if_pos (by simpa using h), Record.owes, if_pos h, List.map_cons, List.sum_cons]
    · rw [if_neg (by simpa using h), Record.owes, if_neg h, Nat.zero_add]

theorem owedIn_append (a b : List Record) (c : Chan) (k : Kind) : owedIn (a ++ b) c k = owedIn a c k + owedIn b c k := by
  simp [owedIn]

theorem owedIn_cons (r : Record) (q : List Record) (c : Chan) (k : Kind) : owedIn (r :: q) c k = r.owes c k + owedIn q c k := by
  simp [owedIn]

/-- A record between the others. -/
theorem owedIn_around (a : List Record) (r : Record) (b : List Record) (c : Chan) (k : Kind) :
    owedIn (a ++ r :: b) c k = r.owes c k + owedIn (a ++ b) c k := by
  rw [owedIn_append, owedIn_cons, owedIn_append]; omega

theorem recordsOf_around (a : List Record) (r : Record) (b : List Record) (c : Chan) :
    recordsOf (a ++ r :: b) c = (if r.source = .chan c then 1 else 0) + recordsOf (a ++ b) c := by
  simp only [recordsOf, List.countP_append, List.countP_cons, beq_iff_eq]
  omega

/-- Without records of a channel nothing is owed to it. -/
theorem owedIn_of_none {q : List Record} {c : Chan} (h : recordsOf q c = 0) (k : Kind) : owedIn q c k = 0 := by
  unfold owedIn
  refine List.sum_eq_zero fun n hn => ?_
  obtain ⟨r, hr, rfl⟩ := List.mem_map.mp hn
  have hsource : ¬r.source = .chan c := by simpa using List.countP_eq_zero.mp h r hr
  exact if_neg fun h => hsource h.1

theorem owedIn_of_work {q q' : List Record} (h : SameWork q q') (c : Chan) (k : Kind) : owedIn q' c k = owedIn q c k := by
  have work (q : List Record) : owedIn q c k = owedIn (q.map Record.work) c k := by
    unfold owedIn
    rw [List.map_map]; rfl
  rw [work, h, ← work]

theorem recordsOf_of_work {q q' : List Record} (h : SameWork q q') (c : Chan) : recordsOf q' c = recordsOf q c :=
  countP_of_map_eq h fun r => r.source == .chan c

/-- Records of others leave. -/
theorem owedIn_filter {p : Record → Bool} {c : Chan} (hp : ∀ r : Record, r.source = .chan c → p r = true) (q : List Record) (k : Kind) :
    owedIn (q.filter p) c k = owedIn q c k := by
  induction q with
  | nil => rfl
  | cons r q ih =>
    rw [List.filter_cons, owedIn_cons]
    split
    · rw [owedIn_cons, ih]
    · next hr =>
      have hsource : r.owes c k = 0 := if_neg fun h => hr (hp r h.1)
      rw [ih, hsource, Nat.zero_add]

theorem recordsOf_filter {p : Record → Bool} {c : Chan} (hp : ∀ r : Record, r.source = .chan c → p r = true) (q : List Record) :
    recordsOf (q.filter p) c = recordsOf q c := by
  unfold recordsOf
  rw [List.countP_filter]
  refine List.countP_congr fun r _ => ?_
  simpa using hp r

theorem owedIn_sublist {q q' : List Record} (h : q'.Sublist q) (c : Chan) (k : Kind) : owedIn q' c k ≤ owedIn q c k :=
  (h.map _).sum_le_sum fun _ _ => Nat.zero_le _

/-! ### The law of a lane FIFO (R118) -/

/-- The law of a channel's FIFO with a queue: `loose` where a removed record may leave its words reserved (QUIESCING), `inRange`
where the descriptor passes CH_START's check, `strobed` where a DEPOSIT strobe that has its room is in progress. -/
structure FifoLaw (x : Channel) (q : List Record) (c : Chan) (loose inRange strobed : Prop) : Prop where
  room : x.held + x.reserved ≤ 64
  claim : x.claimed ≤ x.held
  noReserve : x.direction = .fetch ∨ x.reserved = 0
  noClaim : x.direction = .deposit ∨ x.claimed = 0
  reads : owedIn q c .read ≤ x.reserved
  writes : owedIn q c .write ≤ x.claimed
  exact : (loose ∧ 0 < recordsOf q c) ∨ (owedIn q c .read = x.reserved ∧ owedIn q c .write = x.claimed)
  range : x.busy = true → inRange
  kinds : ∀ r ∈ q, r.source = .chan c → (r.kind = .read ↔ x.direction = .fetch)
  strobe : strobed → x.held + x.reserved < 64 ∧ (x.busy = true → x.direction = .deposit)

/-- The law of a channel's FIFO in a state. -/
def State.ChanLaw (s : State) (c : Chan) : Prop :=
  FifoLaw (s.chan c) s.queue c (s.mode = .quiescing) (s.descRangeFails (s.chan c) = false) (s.strobe = some (.deposit c false))

theorem State.fifoLaw_iff (s : State) : s.fifoLaw = true ↔ ∀ c, s.ChanLaw c := by
  unfold State.fifoLaw
  rw [Chan.all_iff]
  refine forall_congr' fun c => ?_
  have kinds (r : Record) :
      ((r.kind == .read) = ((s.chan c).direction == .fetch)) ↔ (r.kind = .read ↔ (s.chan c).direction = .fetch) := by
    rw [Bool.eq_iff_iff, beq_iff_eq, beq_iff_eq]
  simp only [Bool.and_eq_true, Bool.or_eq_true, decide_eq_true_eq, beq_iff_eq, Bool.not_eq_true', List.all_eq_true,
    bne_iff_ne, kinds, s.owed_eq]
  constructor
  · rintro ⟨⟨⟨⟨⟨⟨⟨⟨⟨h1, h2⟩, h3⟩, h4⟩, h5⟩, h6⟩, h7⟩, h8⟩, h9⟩, h10⟩
    exact ⟨h1, h2, h3, h4, h5, h6, h7, fun h => h8.resolve_left (by simp [h]), fun r hr h => (h9 r hr).resolve_left (· h),
      fun h => (h10.resolve_left (· h)).imp id fun k h => k.resolve_left (by simp [h])⟩
  · rintro ⟨h1, h2, h3, h4, h5, h6, h7, h8, h9, h10⟩
    refine ⟨⟨⟨⟨⟨⟨⟨⟨⟨h1, h2⟩, h3⟩, h4⟩, h5⟩, h6⟩, h7⟩, ?_⟩, fun r hr => ?_⟩, ?_⟩
    · exact (Bool.eq_false_or_eq_true _).symm.imp_right h8
    · exact (em (r.source = .chan c)).symm.imp_right (h9 r hr)
    · refine (em (s.strobe = some (.deposit c false))).symm.imp_right fun h => (h10 h).imp id fun k => ?_
      exact (Bool.eq_false_or_eq_true _).symm.imp_right k

section
variable {x : Channel} {q : List Record} {c : Chan} {loose inRange strobed : Prop}

/-- A channel without records whose FIFO has been flushed. -/
theorem FifoLaw.empty (hx : x.fifo = [] ∧ x.reserved = 0 ∧ x.claimed = 0) (none : recordsOf q c = 0) (range : x.busy = true → inRange)
    (strobe : ¬strobed) : FifoLaw x q c loose inRange strobed := by
  obtain ⟨hfifo, hreserved, hclaimed⟩ := hx
  have held : x.held = 0 := by simp [Channel.held, hfifo]
  have nothing (k : Kind) := owedIn_of_none none k
  refine ⟨by omega, by omega, .inr hreserved, .inr hclaimed, by rw [nothing]; omega, by rw [nothing]; omega,
    .inr ⟨by rw [nothing, hreserved], by rw [nothing, hclaimed]⟩, range, fun r hr hsource => ?_, fun h => absurd h strobe⟩
  exact absurd (beq_iff_eq.mpr hsource) (List.countP_eq_zero.mp none r hr)

variable (h : FifoLaw x q c loose inRange strobed)
include h

theorem FifoLaw.imp {loose' inRange' strobed' : Prop} (hl : loose → loose') (hr : x.busy = true → inRange → inRange')
    (hs : strobed' → strobed) : FifoLaw x q c loose' inRange' strobed' :=
  ⟨h.room, h.claim, h.noReserve, h.noClaim, h.reads, h.writes, h.exact.imp_left fun k => ⟨hl k.1, k.2⟩,
    fun hb => hr hb (h.range hb), h.kinds,
    fun k => h.strobe (hs k)⟩

/-- Without records of the channel it is exact. -/
theorem FifoLaw.exact_of_none (none : recordsOf q c = 0) : x.reserved = 0 ∧ x.claimed = 0 := by
  rcases h.exact with ⟨_, some⟩ | ⟨reads, writes⟩
  · omega
  · rw [owedIn_of_none none] at reads writes
    exact ⟨reads.symm, writes.symm⟩

/-- Without records of the channel no looseness is needed. -/
theorem FifoLaw.tight (none : recordsOf q c = 0) {loose' : Prop} : FifoLaw x q c loose' inRange strobed := by
  obtain ⟨reserved, claimed⟩ := h.exact_of_none none
  exact ⟨h.room, h.claim, h.noReserve, h.noClaim, h.reads, h.writes,
    .inr ⟨by rw [owedIn_of_none none, reserved], by rw [owedIn_of_none none, claimed]⟩, h.range, h.kinds, h.strobe⟩

/-- Another queue in which the channel's records have the same work. -/
theorem FifoLaw.queue {q' : List Record} (owed : ∀ k, owedIn q' c k = owedIn q c k) (records : recordsOf q' c = recordsOf q c)
    (from_ : ∀ r' ∈ q', r'.source = .chan c → ∃ r ∈ q, r.source = .chan c ∧ r.kind = r'.kind) :
    FifoLaw x q' c loose inRange strobed := by
  refine ⟨h.room, h.claim, h.noReserve, h.noClaim, by rw [owed]; exact h.reads, by rw [owed]; exact h.writes, ?_, h.range,
    fun r' hr' hsource => ?_, h.strobe⟩
  · rw [owed, owed, records]; exact h.exact
  · obtain ⟨r, hr, hsource, hkind⟩ := from_ r' hr' hsource
    rw [← hkind]
    exact h.kinds r hr hsource

theorem FifoLaw.of_work {q' : List Record} (hq : SameWork q q') : FifoLaw x q' c loose inRange strobed := by
  refine h.queue (owedIn_of_work hq c) (recordsOf_of_work hq c) fun r' hr' hsource => ?_
  obtain ⟨r, hr, hwork⟩ := hq.exists hr'
  exact ⟨r, hr, (congrArg Record.source hwork : r.work.source = r'.work.source).trans hsource,
    (congrArg Record.kind hwork : r.work.kind = r'.work.kind)⟩

/-- Records of others leave the queue. -/
theorem FifoLaw.filter {p : Record → Bool} (hp : ∀ r : Record, r.source = .chan c → p r = true) :
    FifoLaw x (q.filter p) c loose inRange strobed :=
  h.queue (owedIn_filter hp q) (recordsOf_filter hp q) fun r hr hsource => ⟨r, List.mem_of_mem_filter hr, hsource, rfl⟩

/-- A record of another source joins. -/
theorem FifoLaw.join {r : Record} (hr : r.source ≠ .chan c) : FifoLaw x (q ++ [r]) c loose inRange strobed := by
  refine h.queue (fun k => ?_) ?_ fun r' hr' hsource => ?_
  · have nothing : r.owes c k = 0 := if_neg fun hk => hr hk.1
    rw [owedIn_around, List.append_nil, nothing, Nat.zero_add]
  · rw [recordsOf_around, List.append_nil, if_neg hr, Nat.zero_add]
  · rcases List.mem_append.mp hr' with hr' | hr'
    · exact ⟨r', hr', hsource, rfl⟩
    · rw [List.mem_singleton.mp hr'] at hsource
      exact absurd hsource hr

/-- Another channel with the same words, counts and direction, which runs where this one runs. -/
theorem FifoLaw.like {x' : Channel} (held : x'.held = x.held) (reserved : x'.reserved = x.reserved) (claimed : x'.claimed = x.claimed)
    (direction : x'.direction = x.direction) (busy : x'.busy = true → x.busy = true) : FifoLaw x' q c loose inRange strobed :=
  ⟨by rw [held, reserved]; exact h.room, by rw [claimed, held]; exact h.claim, by rw [direction, reserved]; exact h.noReserve,
    by rw [direction, claimed]; exact h.noClaim, by rw [reserved]; exact h.reads, by rw [claimed]; exact h.writes,
    by rw [reserved, claimed]; exact h.exact, fun hb => h.range (busy hb), by rw [direction]; exact h.kinds,
    fun hs => by rw [held, reserved, direction]; exact (h.strobe hs).imp id fun k hb => k (busy hb)⟩

/-- The counters and pins of the channel move, and it may stop (R117). -/
theorem FifoLaw.moves {x' : Channel} (hx : x.Moves x') : FifoLaw x' q c loose inRange strobed := by
  refine h.like (congrArg List.length hx.fifo) hx.reserved hx.claimed ?_ fun hb => ?_
  · unfold Channel.direction Channel.descByte
    rw [hx.desc]
  · by_contra hidle
    rw [hx.busy (by simpa using hidle)] at hb
    cases hb

/-- A word of a record moves, and the record goes on with one word less to move, or leaves (R28). -/
theorem FifoLaw.word {q' : List Record} {r : Record} (d : Data) (hr : r ∈ q) (hsource : r.source = .chan c) (hkind : r.kind ≠ .byteWrite)
    (owed : owedIn q c r.kind = owedIn q' c r.kind + 1) (others : ∀ k ≠ r.kind, owedIn q' c k = owedIn q c k)
    (records : loose → 0 < recordsOf q c → 0 < recordsOf q' c)
    (from_ : ∀ r' ∈ q', r'.source = .chan c → ∃ r ∈ q, r.source = .chan c ∧ r.kind = r'.kind) :
    FifoLaw (x.wordMoved r.kind d) q' c loose inRange strobed := by
  have hdirection := h.kinds r hr hsource
  have kinds {x' : Channel} (hx : x'.direction = x.direction) (r' : Record) (hr' : r' ∈ q') (hsource' : r'.source = .chan c) :
      r'.kind = .read ↔ x'.direction = .fetch := by
    obtain ⟨p, hp, hsource, hkind⟩ := from_ r' hr' hsource'
    rw [← hkind, hx]
    exact h.kinds p hp hsource
  have room := h.room
  have claim := h.claim
  have reads := h.reads
  have writes := h.writes
  have exact_ := h.exact
  cases hk : r.kind with
  | byteWrite => exact absurd hk hkind
  | read =>
    have direction : x.direction = .fetch := hdirection.mp hk
    have claimed : x.claimed = 0 := h.noClaim.resolve_left (by rw [direction]; nofun)
    rw [hk] at owed others
    have same := others .write nofun
    have held : (x.wordMoved .read d).held = x.held + 1 := by simp [Channel.wordMoved, Channel.held]
    have reserved : (x.wordMoved .read d).reserved = x.reserved - 1 := rfl
    have claimed' : (x.wordMoved .read d).claimed = x.claimed := rfl
    refine ⟨by omega, by omega, .inl direction, .inr claimed, by omega, by omega, ?_, h.range, kinds rfl, fun hs => ?_⟩
    · exact exact_.imp (fun k => ⟨k.1, records k.1 k.2⟩) fun k => ⟨by omega, by omega⟩
    · exact (h.strobe hs).imp (fun _ => by omega) id
  | write =>
    have direction : x.direction = .deposit := by
      cases hd : x.direction with
      | fetch => rw [hdirection.mpr hd] at hk; cases hk
      | deposit => rfl
    have reserved : x.reserved = 0 := h.noReserve.resolve_left (by rw [direction]; nofun)
    rw [hk] at owed others
    have same := others .read nofun
    have held : (x.wordMoved .write d).held = x.held - 1 := by simp [Channel.wordMoved, Channel.held]
    have reserved' : (x.wordMoved .write d).reserved = x.reserved := rfl
    have claimed' : (x.wordMoved .write d).claimed = x.claimed - 1 := rfl
    refine ⟨by omega, by omega, .inr reserved, .inl direction, by omega, by omega, ?_, h.range, kinds rfl, fun hs => ?_⟩
    · exact exact_.imp (fun k => ⟨k.1, records k.1 k.2⟩) fun k => ⟨by omega, by omega⟩
    · exact (h.strobe hs).imp (fun _ => by omega) id

end

end Sys2Proof.Machine
end

section
/-! Every change keeps the law of the lane FIFOs. -/

namespace Sys2Proof.Machine

/-! ### Posts and withdrawals -/

/-- A record of a channel is a read or a write (R70). -/
theorem Record.Law.kind_of_chan {r : Record} (h : r.Law) {c : Chan} (hs : r.source = .chan c) : r.kind ≠ .byteWrite := by
  have source := h.source
  simp only [Record.sourceOk, hs, Bool.and_eq_true, bne_iff_ne] at source
  exact source.2

/-- What a burst owes once it is posted (R127). -/
theorem Channel.burstRecord_owes (x : Channel) (c : Chan) (k : Kind) :
    (x.burstRecord c).owes c k = if (x.burstRecord c).kind = k then x.burst else 0 :=
  if_congr (and_iff_right rfl) rfl rfl

/-- Withdrawn records, not yet started, give back what they owe (R91). -/
theorem owedIn_withdraw {q : List Record} {c : Chan} (waiting : ∀ r ∈ q, r.state = .waiting → r.done = 0) (k : Kind) :
    owedIn (q.filter fun r => !Record.removable c r) c k + countsOf k (q.filter (Record.removable c)) = owedIn q c k := by
  induction q with
  | nil => rfl
  | cons r q ih =>
    have rest := ih fun p hp => waiting p (List.mem_cons_of_mem _ hp)
    rw [owedIn_cons, List.filter_cons, List.filter_cons]
    by_cases hr : Record.removable c r = true
    · have hgone : r.source = .chan c ∧ r.state = .waiting := by simpa [Record.removable] using hr
      have fresh := waiting r List.mem_cons_self hgone.2
      have count : countsOf k (r :: q.filter (Record.removable c)) = r.owes c k + countsOf k (q.filter (Record.removable c)) := by
        unfold countsOf Record.owes
        by_cases hk : r.kind = k
        · simp [hk, hgone.1, fresh]
        · simp [hk]
      rw [hr, if_neg (by simp), if_pos rfl, count]
      omega
    · rw [if_pos (by simpa using hr), if_neg hr, owedIn_cons]
      omega

section
variable {x : Channel} {q : List Record} {c : Chan} {loose inRange strobed : Prop} (h : FifoLaw x q c loose inRange strobed)
include h

/-- A burst posted by a RUNNING channel with room in its FIFO (R126, R127). -/
theorem FifoLaw.post (tight : ¬loose) (running : x.busy = true)
    (fetches : x.direction = .fetch → x.burst ≤ 64 - x.held - x.reserved)
    (deposits : x.direction = .deposit → x.burst ≤ x.held - x.claimed) :
    FifoLaw x.afterPost (q ++ [x.burstRecord c]) c loose inRange strobed := by
  have owed (k : Kind) : owedIn (q ++ [x.burstRecord c]) c k = (if (x.burstRecord c).kind = k then x.burst else 0) + owedIn q c k := by
    rw [owedIn_around, List.append_nil, Channel.burstRecord_owes]
  have room := h.room
  have claim := h.claim
  obtain ⟨reads, writes⟩ := h.exact.resolve_left fun k => tight k.1
  have held : x.afterPost.held = x.held := rfl
  have kinds {k : Kind} (hk : (x.burstRecord c).kind = k) (hx : k = .read ↔ x.direction = .fetch) :
      ∀ r ∈ q ++ [x.burstRecord c], r.source = .chan c → (r.kind = .read ↔ x.afterPost.direction = .fetch) := by
    intro r hr hsource
    rcases List.mem_append.mp hr with hr | hr
    · exact h.kinds r hr hsource
    · rw [List.mem_singleton.mp hr, hk]; exact hx
  have owedRead := owed .read
  have owedWrite := owed .write
  cases hd : x.direction with
  | fetch =>
    have kind : (x.burstRecord c).kind = .read := by simp [Channel.burstRecord, hd]
    have reserved : x.afterPost.reserved = x.reserved + x.burst := by simp [Channel.afterPost, hd]
    have claimed : x.afterPost.claimed = x.claimed := by simp [Channel.afterPost, hd]
    have fits := fetches hd
    rw [kind, if_pos rfl] at owedRead
    rw [kind, if_neg nofun] at owedWrite
    refine ⟨by omega, by omega, .inl hd, ?_, by omega, by omega, .inr ⟨by omega, by omega⟩, h.range, kinds kind (iff_of_true rfl hd), ?_⟩
    · rw [claimed]; exact h.noClaim
    · intro hs
      exact absurd (((h.strobe hs).2 running).symm.trans hd) nofun
  | deposit =>
    have kind : (x.burstRecord c).kind = .write := by simp [Channel.burstRecord, hd]
    have reserved : x.afterPost.reserved = x.reserved := by simp [Channel.afterPost, hd]
    have claimed : x.afterPost.claimed = x.claimed + x.burst := by simp [Channel.afterPost, hd]
    have fits := deposits hd
    rw [kind, if_neg nofun] at owedRead
    rw [kind, if_pos rfl] at owedWrite
    refine ⟨by omega, by omega, ?_, .inl hd, by omega, by omega, .inr ⟨by omega, by omega⟩, h.range,
      kinds kind (iff_of_false nofun (by rw [hd]; nofun)), ?_⟩
    · rw [reserved]; exact h.noReserve
    · intro hs
      exact ⟨by have := (h.strobe hs).1; omega, fun _ => hd⟩

/-- A withdrawal of the channel's records that have not started (R91). -/
theorem FifoLaw.withdraw (tight : ¬loose) (waiting : ∀ r ∈ q, r.state = .waiting → r.done = 0) :
    FifoLaw { x with
      reserved := x.reserved - countsOf .read (q.filter (Record.removable c))
      claimed := x.claimed - countsOf .write (q.filter (Record.removable c)) }
      (q.filter fun r => !Record.removable c r) c loose inRange strobed := by
  obtain ⟨reads, writes⟩ := h.exact.resolve_left fun k => tight k.1
  have gaveReads := owedIn_withdraw (c := c) waiting .read
  have gaveWrites := owedIn_withdraw (c := c) waiting .write
  have room := h.room
  have claim := h.claim
  refine ⟨le_trans (Nat.add_le_add_left (Nat.sub_le ..) _) room, le_trans (Nat.sub_le ..) claim, h.noReserve.imp_right ?_,
    h.noClaim.imp_right ?_, ?_, ?_, .inr ⟨?_, ?_⟩, h.range, fun r hr => h.kinds r (List.mem_of_mem_filter hr),
    fun hs => ⟨lt_of_le_of_lt (Nat.add_le_add_left (Nat.sub_le ..) _) (h.strobe hs).1, (h.strobe hs).2⟩⟩
  · intro hnone
    show x.reserved - _ = 0
    omega
  · intro hnone
    show x.claimed - _ = 0
    omega
  · show _ ≤ x.reserved - _
    omega
  · show _ ≤ x.claimed - _
    omega
  · show _ = x.reserved - _
    omega
  · show _ = x.claimed - _
    omega

end

/-! ### Strobes and flushes -/

/-- A DEPOSIT strobe that keeps its word through a flush is one of another channel (R145). -/
theorem Strobe.afterFlush_keeps {st : Option Strobe} {c d : Chan} (h : st.map (Strobe.afterFlush c) = some (.deposit d false)) :
    st = some (.deposit d false) ∧ d ≠ c := by
  obtain ⟨st, rfl, hst⟩ := Option.map_eq_some_iff.mp h
  cases st with
  | fetch e w => cases hst
  | deposit e flushed =>
    simp only [Strobe.afterFlush, Strobe.deposit.injEq, Bool.or_eq_false_iff, beq_eq_false_iff_ne] at hst
    obtain ⟨rfl, rfl, hne⟩ := hst
    exact ⟨rfl, hne⟩

theorem State.clearWaiting_strobe {s : State} {r : Record} {c : Chan} (h : (s.clearWaiting r).strobe = some (.deposit c false)) :
    s.strobe = some (.deposit c false) ∧ r.source ≠ .chan c := by
  unfold State.clearWaiting at h
  cases hsource : r.source with
  | host =>
    rw [hsource] at h
    refine ⟨?_, nofun⟩
    cases hkind : r.kind <;> rw [hkind] at h <;> exact h
  | chan d =>
    rw [hsource] at h
    obtain ⟨hs, hne⟩ := Strobe.afterFlush_keeps h
    exact ⟨hs, fun he => hne (Source.chan_eq_iff.mp he)⟩

theorem State.resetChan_strobe {s : State} {c d : Chan} (h : (s.resetChan c).strobe = some (.deposit d false)) :
    s.strobe = some (.deposit d false) ∧ (d = c → s.chanInFlight c = true) := by
  unfold State.resetChan at h
  simp only [State.setChan_strobe] at h
  split at h
  · next hflight => exact ⟨h, fun _ => hflight⟩
  · obtain ⟨hs, hne⟩ := Strobe.afterFlush_keeps h
    exact ⟨hs, fun he => absurd he hne⟩

/-- A DEPOSIT strobe that keeps its word through a traffic reset is of the channel whose record is in flight (R135, R145). -/
theorem State.clearTraffic_strobe {s : State} {c : Chan} (h : s.clearTraffic.strobe = some (.deposit c false)) :
    s.strobe = some (.deposit c false) ∧ s.chanInFlight c = true := by
  have flight (t : State) (hq : t.queue = s.queue) (d : Chan) : t.chanInFlight d = s.chanInFlight d := by
    unfold State.chanInFlight; rw [hq]
  have hstrobe : (((s.resetChan .c0).resetChan .c1).resetChan .c2).strobe = some (.deposit c false) := h
  obtain ⟨h1, hc2⟩ := State.resetChan_strobe hstrobe
  obtain ⟨h0, hc1⟩ := State.resetChan_strobe h1
  obtain ⟨hs, hc0⟩ := State.resetChan_strobe h0
  rw [flight _ (by rw [State.resetChan_queue, State.resetChan_queue])] at hc2
  rw [flight _ (State.resetChan_queue ..)] at hc1
  refine ⟨hs, ?_⟩
  cases c with
  | c0 => exact hc0 rfl
  | c1 => exact hc1 rfl
  | c2 => exact hc2 rfl

end Sys2Proof.Machine
end

section
/-! The law of the lane FIFOs through every change. -/

namespace Sys2Proof.Machine

/-! ### The law of a FIFO through each kind of change -/

/-- CH_START's range check depends on the descriptor and the PRESENT bits alone. -/
theorem State.descRangeFails_of {s t : State} {x y : Channel} (ht : t.timing = s.timing) (hd : y.desc = x.desc) :
    t.descRangeFails y = s.descRangeFails x := by
  have present (b : Bank) : t.present b = s.present b := by unfold State.present; rw [ht]
  obtain ⟨⟩ := x
  obtain ⟨⟩ := y
  cases hd
  unfold State.descRangeFails
  rw [present]
  rfl

/-- The law of a channel's FIFO from one over the same descriptor and timing table. -/
theorem State.ChanLaw.of {s t : State} {c : Chan} {x y : Channel} {loose strobed : Prop}
    (h : FifoLaw x t.queue c loose (s.descRangeFails y = false) strobed) (hx : t.chan c = x) (hd : x.desc = y.desc)
    (ht : t.timing = s.timing) (hl : loose → t.mode = .quiescing) (hs : t.strobe = some (.deposit c false) → strobed) :
    t.ChanLaw c := by
  unfold State.ChanLaw
  rw [hx, State.descRangeFails_of ht hd]
  exact h.imp hl (fun _ => id) hs

/-- The law of the FIFO of a channel without records that has been flushed. -/
theorem State.ChanLaw.fresh {t : State} {c : Chan} {x : Channel} (hx : t.chan c = x)
    (empty : x.fifo = [] ∧ x.reserved = 0 ∧ x.claimed = 0) (none : recordsOf t.queue c = 0)
    (range : x.busy = true → t.descRangeFails x = false) (strobe : t.strobe ≠ some (.deposit c false)) : t.ChanLaw c := by
  unfold State.ChanLaw
  rw [hx]
  exact FifoLaw.empty empty none range strobe

section
variable {x : Channel} {q : List Record} {c : Chan} {loose inRange strobed : Prop} (h : FifoLaw x q c loose inRange strobed)
include h

/-- A stopped channel without records takes any descriptor (R115). -/
theorem FifoLaw.newDesc {x' : Channel} (none : recordsOf q c = 0) (held : x'.held = x.held) (reserved : x'.reserved = x.reserved)
    (claimed : x'.claimed = x.claimed) (stopped : ¬x'.busy = true) {inRange' : Prop} : FifoLaw x' q c loose inRange' strobed := by
  obtain ⟨noReserve, noClaim⟩ := h.exact_of_none none
  have nothing (k : Kind) := owedIn_of_none none k
  have room := h.room
  refine ⟨by omega, by omega, .inr (by omega), .inr (by omega), by rw [nothing]; omega, by rw [nothing]; omega,
    .inr ⟨by rw [nothing]; omega, by rw [nothing]; omega⟩, fun hb => absurd hb stopped, fun r hr hsource => ?_,
    fun hs => ⟨?_, fun hb => absurd hb stopped⟩⟩
  · exact absurd (beq_iff_eq.mpr hsource) (List.countP_eq_zero.mp none r hr)
  · have := (h.strobe hs).1
    omega

/-- Records leave while one of the channel stays, and what they owed stays reserved (R94). -/
theorem FifoLaw.left {q' : List Record} (hq : q'.Sublist q) {loose' : Prop} (hl : loose') (some : 0 < recordsOf q' c) :
    FifoLaw x q' c loose' inRange strobed :=
  ⟨h.room, h.claim, h.noReserve, h.noClaim, (owedIn_sublist hq c .read).trans h.reads, (owedIn_sublist hq c .write).trans h.writes,
    .inl ⟨hl, some⟩, h.range, fun r hr => h.kinds r (hq.subset hr), h.strobe⟩

/-- Another strobe starts or ends. -/
theorem FifoLaw.noStrobe : FifoLaw x q c loose inRange False := h.imp id (fun _ => id) False.elim

/-- The word of a FETCH strobe leaves the FIFO (R144). -/
theorem FifoLaw.fetch {x' : Channel} {w : Data} {rest : List Data} (direction : x.direction = .fetch) (fifo : x.fifo = w :: rest)
    (hx : x' = { x with fifo := rest }) : FifoLaw x' q c loose inRange False := by
  have claimed : x.claimed = 0 := h.noClaim.resolve_left (by rw [direction]; nofun)
  have held : x.held = x'.held + 1 := by rw [hx]; exact congrArg List.length fifo
  have reserved : x'.reserved = x.reserved := by rw [hx]
  have claimed' : x'.claimed = x.claimed := by rw [hx]
  have room := h.room
  subst hx
  exact ⟨by omega, by omega, h.noReserve, h.noClaim, h.reads, h.writes, h.exact, h.range, h.kinds, False.elim⟩

/-- The word of a DEPOSIT strobe joins the FIFO (R145). -/
theorem FifoLaw.captured {x' : Channel} {d : Data} (hs : strobed) (hx : x' = { x with fifo := x.fifo ++ [d] }) :
    FifoLaw x' q c loose inRange False := by
  have held : x'.held = x.held + 1 := by subst hx; exact List.length_append
  have room := (h.strobe hs).1
  have claim := h.claim
  have reserved : x'.reserved = x.reserved := by rw [hx]
  have claimed : x'.claimed = x.claimed := by rw [hx]
  subst hx
  exact ⟨by omega, by omega, h.noReserve, h.noClaim, h.reads, h.writes, h.exact, h.range, h.kinds, False.elim⟩

/-- A DEPOSIT strobe of a channel that can be served starts (R143, R145). -/
theorem FifoLaw.deposit (direction : x.direction = .deposit) (servable : x.servable = true) : FifoLaw x q c loose inRange True := by
  have reserved : x.reserved = 0 := h.noReserve.resolve_left (by rw [direction]; nofun)
  have room : x.held < 64 := by
    simp only [Channel.servable, direction, Bool.and_eq_true, decide_eq_true_eq] at servable
    exact servable.2.2
  exact ⟨h.room, h.claim, h.noReserve, h.noClaim, h.reads, h.writes, h.exact, h.range, h.kinds,
    fun _ => ⟨by omega, fun _ => direction⟩⟩

end

/-- The record in flight alone stands in the queue in QUIESCING (R75). -/
theorem State.Agrees.alone {s : State} (hs : s.Agrees) (hm : s.mode = .quiescing) {a b : List Record} {r : Record}
    (hq : s.queue = a ++ r :: b) (active : r.state = .active) : a = [] ∧ b = [] := by
  obtain ⟨ha, hb⟩ := hs.path.around hq active
  have all : ∀ p ∈ s.queue, p.state = .active := by
    have queue := hs.queue
    rw [hm] at queue
    simpa [Mode.queueOk] using queue
  have empty {q : List Record} (hq : ∀ p ∈ q, p ∈ s.queue) (hh : holders q = []) : q = [] := by
    refine List.eq_nil_iff_forall_not_mem.mpr fun p hp => ?_
    have : p ∈ q.filter (·.state == .active) := List.mem_filter.mpr ⟨hp, beq_iff_eq.mpr (all p (hq p hp))⟩
    rw [List.map_eq_nil_iff.mp hh] at this
    cases this
  exact ⟨empty (fun p hp => by simp [hq, hp]) ha, empty (fun p hp => by simp [hq, hp]) hb⟩

/-- The words owed by a record with one more word done. -/
theorem Record.owes_wordDone {r : Record} (more : r.done < r.count) (bad : Bool) (c : Chan) (k : Kind) :
    r.owes c k = (r.wordDone bad).owes c k + if r.source = .chan c ∧ r.kind = k then 1 else 0 := by
  have done : (r.wordDone bad).count - (r.wordDone bad).done = r.count - (r.done + 1) := rfl
  unfold Record.owes
  rw [done, show (r.wordDone bad).source = r.source from rfl, show (r.wordDone bad).kind = r.kind from rfl]
  split <;> omega

end Sys2Proof.Machine
end

section
/-! Every change keeps the law of the lane FIFOs: the cases. -/

namespace Sys2Proof.Machine

/-- A word of a record moves, and the record goes on or leaves: `rest` is what is left of it in the queue (R28). -/
theorem State.ChanLaw.word {s t : State} (hrec : ∀ r ∈ s.queue, r.Law) {a b rest : List Record} {r : Record} {bad : Bool} {c : Chan}
    (hf : s.ChanLaw c)
    (hq : s.queue = a ++ r :: b) (hqt : t.queue = a ++ rest ++ b) (hc : t.chan c = (s.moveWord r).chan c) (ht : t.timing = s.timing)
    (hm : t.mode = s.mode) (strobe : t.strobe = s.strobe)
    (hrest : rest = [r.wordDone bad] ∨ (rest = [] ∧ r.count ≤ r.done + 1 ∧ s.mode ≠ .quiescing)) : t.ChanLaw c := by
  have law : r.Law := hrec r (by simp [hq])
  have member : r ∈ s.queue := by simp [hq]
  have owedStep (k : Kind) :
      owedIn s.queue c k = owedIn t.queue c k + if r.source = .chan c ∧ r.kind = k then 1 else 0 := by
    have step := Record.owes_wordDone law.more bad c k
    rw [hq, owedIn_around, hqt]
    rcases hrest with rfl | ⟨rfl, last, _⟩
    · rw [List.append_assoc, List.singleton_append, owedIn_around]
      omega
    · have nothing : (r.wordDone bad).owes c k = 0 := by
        unfold Record.owes
        split
        · exact Nat.sub_eq_zero_of_le last
        · rfl
      rw [List.append_nil]
      omega
  have from_ : ∀ r' ∈ t.queue, r'.source = .chan c → ∃ p ∈ s.queue, p.source = .chan c ∧ p.kind = r'.kind := by
    intro r' hr' hsource
    rw [hqt] at hr'
    rcases List.mem_append.mp hr' with hr' | hr'
    · rcases List.mem_append.mp hr' with hr' | hr'
      · exact ⟨r', by simp [hq, hr'], hsource, rfl⟩
      · rcases hrest with rfl | ⟨rfl, _⟩
        · rw [List.mem_singleton.mp hr'] at hsource ⊢
          exact ⟨r, member, hsource, rfl⟩
        · cases hr'
    · exact ⟨r', by simp [hq, hr'], hsource, rfl⟩
  have records : recordsOf t.queue c = recordsOf s.queue c ∨ (r.source = .chan c ∧ s.mode ≠ .quiescing) := by
    rw [hq, recordsOf_around, hqt]
    rcases hrest with rfl | ⟨rfl, _, hmode⟩
    · rw [List.append_assoc, List.singleton_append, recordsOf_around]
      exact .inl rfl
    · by_cases hsource : r.source = .chan c
      · exact .inr ⟨hsource, hmode⟩
      · rw [List.append_nil, if_neg hsource, Nat.zero_add]
        exact .inl rfl
  by_cases hsource : r.source = .chan c
  · have owed : owedIn s.queue c r.kind = owedIn t.queue c r.kind + 1 := by rw [owedStep, if_pos ⟨hsource, rfl⟩]
    have others (k : Kind) (hk : k ≠ r.kind) : owedIn t.queue c k = owedIn s.queue c k := by
      rw [owedStep, if_neg fun h => hk h.2.symm]
      rfl
    have moved := FifoLaw.word hf (s.wordAt r).data member hsource (law.kind_of_chan hsource) owed others
      (fun hmode some => records.elim (fun h => h ▸ some) fun h => absurd hmode h.2) from_
    refine State.ChanLaw.of moved (hc.trans ?_) ?_ ht (fun h => hm.trans h) (fun h => strobe.symm.trans h)
    · rw [State.moveWord_chan, if_pos hsource]
    · unfold Channel.wordMoved
      split <;> rfl
  · have owed (k : Kind) : owedIn t.queue c k = owedIn s.queue c k := by
      rw [owedStep, if_neg fun h => hsource h.1]
      rfl
    have same := FifoLaw.queue hf owed (records.resolve_right fun h => hsource h.1) from_
    refine State.ChanLaw.of same (hc.trans ?_) rfl ht (fun h => hm.trans h) (fun h => strobe.symm.trans h)
    rw [State.moveWord_chan, if_neg hsource]

/-- The record in flight leaves in QUIESCING: its own FIFO is flushed, and no other channel has a record (R94, R135). -/
theorem State.ChanLaw.remove {s t : State} (hs : s.Agrees) {a b : List Record} {r : Record} {c : Chan} (hf : s.ChanLaw c)
    (hq : s.queue = a ++ r :: b) (active : r.state = .active) (mode : s.mode = .quiescing) (hqt : t.queue = a ++ b)
    (hc : t.chan c = ((s.leaves a r b).clearWaiting r).chan c) (ht : t.timing = s.timing)
    (strobe : t.strobe = ((s.leaves a r b).clearWaiting r).strobe) : t.ChanLaw c := by
  obtain ⟨rfl, rfl⟩ := hs.alone mode hq active
  have none : recordsOf t.queue c = 0 := by rw [hqt]; rfl
  rw [State.clearWaiting_chan] at hc
  by_cases hsource : r.source = .chan c
  · rw [if_pos hsource] at hc
    refine State.ChanLaw.fresh hc ⟨rfl, rfl, rfl⟩ none (fun hb => ?_) fun h => ?_
    · have busy : ((s.moveWord r).chan c).busy = true := hb
      have running := hs.mode_of_busy ((s.moveWord_busy r c).symm.trans busy)
      rw [mode] at running
      cases running
    · exact (State.clearWaiting_strobe (strobe.symm.trans h)).2 hsource
  · rw [if_neg hsource] at hc
    have same : t.chan c = s.chan c := hc.trans (by
      show (s.moveWord r).chan c = s.chan c
      rw [State.moveWord_chan, if_neg hsource])
    have before : recordsOf s.queue c = 0 := by rw [hq, recordsOf_around, if_neg hsource]; rfl
    have nothing (k : Kind) : owedIn t.queue c k = owedIn s.queue c k := by rw [owedIn_of_none none, owedIn_of_none before]
    have law := (FifoLaw.tight hf before (loose' := False)).queue nothing (none.trans before.symm) (q' := t.queue)
      fun r' hr' => by rw [hqt] at hr'; cases hr'
    exact State.ChanLaw.of law same rfl ht False.elim fun h => (State.clearWaiting_strobe (strobe.symm.trans h)).1

/-- Every change keeps the law of each lane FIFO (R118). -/
theorem Change.chanLaw {s t : State} (h : Change s t) (hs : s.Agrees) (hrec : ∀ r ∈ s.queue, r.Law) (hf : ∀ c, s.ChanLaw c)
    (c : Chan) : t.ChanLaw c := by
  have given := hf c
  have mode {m : Mode} (hm : s.mode = m) (h : m ≠ .quiescing) {p : Prop} (hq : s.mode = .quiescing) : p := absurd (hm.symm.trans hq) h
  have tight {d : Chan} (busy : (s.chan d).busy = true) : ¬s.mode = .quiescing := by
    rw [hs.mode_of_busy busy]; nofun
  have running {d : Chan} (h : (s.chan d).state = .running) : (s.chan d).busy = true := by simp [Channel.busy, h]
  have setSame {d : Chan} {x : Channel} (hd : c = d) : (s.chans.set d x).get c = x := by rw [hd, PerChan.get_set_same]
  have setOther {d : Chan} {x : Channel} (hd : c ≠ d) : (s.chans.set d x).get c = s.chan c := PerChan.get_set_other _ _ hd
  cases h with
  | aside t core =>
    refine (State.fifoLaw_iff t).mp ?_ c
    show t.core.fifoLaw = true
    rw [core]
    exact s.fifoLaw_iff.mpr hf
  | chans f moves => exact State.ChanLaw.of (FifoLaw.moves given (moves c)) rfl (moves c).desc rfl id id
  | reset => exact State.ChanLaw.fresh (State.chan_of_reset rfl c) ⟨rfl, rfl, rfl⟩ rfl nofun nofun
  | timing i v hm =>
    refine FifoLaw.imp given id (fun hb => ?_) id
    have run := hs.mode_of_busy hb
    rw [hm] at run
    cases run
  | desc d i v stopped none =>
    unfold State.ChanLaw
    by_cases hd : c = d
    · subst hd
      rw [State.chan_setChan_same]
      refine FifoLaw.newDesc (x' := { s.chan c with desc := (s.chan c).desc.setIfInBounds i v }) given none rfl rfl rfl ?_
      have idle := (Channel.busy_eq_false_iff _).mpr stopped
      simpa [Channel.busy] using idle
    · rw [State.chan_setChan_other _ _ hd]
      exact given
  | bringup _ hm => exact FifoLaw.imp given (mode hm nofun) (fun _ => id) id
  | warmedUp hm => exact FifoLaw.imp given (mode hm nofun) (fun _ => id) id
  | hold hm => exact FifoLaw.imp given (mode hm nofun) (fun _ => id) id
  | held hm => exact FifoLaw.imp given (mode hm nofun) (fun _ => id) id
  | wake hm => exact FifoLaw.imp given (mode hm nofun) (fun _ => id) id
  | woken hm => exact FifoLaw.imp given (mode hm nofun) (fun _ => id) id
  | quiesce hm =>
    by_cases hflight : s.chanInFlight c = true
    · have some : 0 < recordsOf (s.queue.filter (·.state == .active)) c := by
        obtain ⟨r, hr, hactive⟩ := List.any_eq_true.mp hflight
        simp only [Bool.and_eq_true] at hactive
        exact List.countP_pos_iff.mpr ⟨r, List.mem_filter.mpr ⟨hr, hactive.1⟩, hactive.2⟩
      have left := (FifoLaw.left given List.filter_sublist (loose' := True) trivial some).like (x' := s.afterTrafficReset c)
      unfold State.afterTrafficReset at left
      rw [if_pos hflight] at left
      refine State.ChanLaw.of (left rfl rfl rfl rfl nofun) (((s.clearTraffic_chan_eq c).trans ?_)) rfl rfl (fun _ => rfl)
        fun h => (State.clearTraffic_strobe h).1
      unfold State.afterTrafficReset
      rw [if_pos hflight]
    · have none : recordsOf (s.queue.filter (·.state == .active)) c = 0 := by
        refine List.countP_eq_zero.mpr fun r hr hsource => hflight ?_
        obtain ⟨hr, hactive⟩ := List.mem_filter.mp hr
        exact List.any_eq_true.mpr ⟨r, hr, by rw [hactive, hsource]; rfl⟩
      refine State.ChanLaw.fresh (s.clearTraffic_chan_eq c) ?_ none nofun fun h => hflight (State.clearTraffic_strobe h).2
      unfold State.afterTrafficReset
      rw [if_neg hflight]
      exact ⟨rfl, rfl, rfl⟩
  | quiesced hm empty => exact FifoLaw.tight given (by rw [empty]; rfl)
  | drop b => exact FifoLaw.of_work given (s.sameWork_dropSelection b)
  | select b line i => exact FifoLaw.of_work given (s.sameWork_select line i)
  | precharge b => exact FifoLaw.of_work given (s.sameWork_dropSelection b)
  | joinRead => exact FifoLaw.join given nofun
  | joinWrite => exact FifoLaw.join given nofun
  | joinByte => exact FifoLaw.join given nofun
  | post d hrun accepted =>
    by_cases hd : c = d
    · subst hd
      obtain ⟨_, _, fetches, deposits⟩ := State.slipReason_none accepted
      exact State.ChanLaw.of (FifoLaw.post given (tight (running hrun)) (running hrun) fetches deposits) (setSame rfl) rfl rfl id id
    · exact State.ChanLaw.of (FifoLaw.join given fun h => hd (Source.chan_eq_iff.mp h)) (setOther hd) rfl rfl id id
  | stage => exact FifoLaw.of_work given (SameWork.map (fun r => by split <;> rfl) _)
  | age d => exact FifoLaw.of_work given (SameWork.map (Record.aged_work d) _)
  | withdraw d busy =>
    by_cases hd : c = d
    · subst hd
      exact State.ChanLaw.of (FifoLaw.withdraw given (tight busy) fun r hr => (hrec r hr).waiting) (setSame rfl) rfl rfl id id
    · refine State.ChanLaw.of (FifoLaw.filter given fun r hsource => ?_) (setOther hd) rfl rfl id id
      simp [Record.removable, hsource, hd]
  | start d hm none range =>
    by_cases hd : c = d
    · subst hd
      refine State.ChanLaw.fresh ((s.startChan_chan c c).trans (if_pos rfl)) ⟨rfl, rfl, rfl⟩ none (fun _ => ?_) fun h => ?_
      · exact (State.descRangeFails_of rfl rfl).trans range
      · exact (Strobe.afterFlush_keeps h).2 rfl
    · exact State.ChanLaw.of given ((s.startChan_chan d c).trans (if_neg hd)) rfl rfl id fun h => (Strobe.afterFlush_keeps h).1
  | cancel => exact FifoLaw.filter given fun r hsource => by simp [Record.cancellable, hsource]
  | grant a a' r b hq _ _ _ older =>
    exact FifoLaw.of_work given (hq ▸ SameWork.around (SameWork.passedOver older) (by rfl))
  | word a r b bad hq active more =>
    exact State.ChanLaw.word hrec given hq (rest := [r.wordDone bad]) (by rw [List.append_assoc]; rfl) rfl rfl rfl rfl (.inl rfl)
  | suspend a r b hq => exact FifoLaw.of_work given (hq ▸ SameWork.around (a := a) (by rfl) (by rfl))
  | complete a r b bad hq active _ hm last =>
    exact State.ChanLaw.word hrec given hq (rest := []) (bad := bad) (by rw [List.append_nil]; rfl) rfl rfl rfl rfl
      (.inr ⟨rfl, last, hm⟩)
  | remove a r b hq active _ hm => exact State.ChanLaw.remove hs given hq active hm rfl rfl rfl rfl
  | fetch d w rest direction fifo =>
    by_cases hd : c = d
    · subst hd
      exact State.ChanLaw.of (FifoLaw.fetch given direction fifo rfl) (setSame rfl) rfl rfl id nofun
    · exact State.ChanLaw.of (FifoLaw.noStrobe given) (setOther hd) rfl rfl id nofun
  | deposit d direction servable =>
    by_cases hd : c = d
    · subst hd
      exact State.ChanLaw.of (FifoLaw.deposit given direction servable) rfl rfl rfl id fun _ => trivial
    · refine State.ChanLaw.of (FifoLaw.noStrobe given) rfl rfl rfl id fun h => hd ?_
      cases h
      rfl
  | captured d ld strobe =>
    by_cases hd : c = d
    · subst hd
      exact State.ChanLaw.of (FifoLaw.captured given strobe rfl) (setSame rfl) rfl rfl id nofun
    · exact State.ChanLaw.of (FifoLaw.noStrobe given) (setOther hd) rfl rfl id nofun
  | released => exact FifoLaw.imp given id (fun _ => id) nofun
  | _ => exact given

end Sys2Proof.Machine
end

section
/-! The host buffers through the kinds of change that touch the host records. -/

namespace Sys2Proof.Machine

/-! ### Host records (R96) -/

theorem Record.isHostRead_iff (r : Record) : r.isHostRead = true ↔ r.source = .host ∧ r.kind = .read := by simp [Record.isHostRead]

theorem Record.isHostWrite_iff (r : Record) : r.isHostWrite = true ↔ r.source = .host ∧ r.kind ≠ .read := by simp [Record.isHostWrite]

theorem State.hrdPend_eq_false (s : State) : s.hrdPend = false ↔ ∀ r ∈ s.queue, ¬r.isHostRead = true := by simp [State.hrdPend]

theorem State.hwrPend_eq_false (s : State) : s.hwrPend = false ↔ ∀ r ∈ s.queue, ¬r.isHostWrite = true := by simp [State.hwrPend]

theorem State.hrdPend_of_mem {s : State} {r : Record} (hr : r ∈ s.queue) (h : r.isHostRead = true) : s.hrdPend = true :=
  List.any_eq_true.mpr ⟨r, hr, h⟩

theorem State.hwrPend_of_mem {s : State} {r : Record} (hr : r ∈ s.queue) (h : r.isHostWrite = true) : s.hwrPend = true :=
  List.any_eq_true.mpr ⟨r, hr, h⟩

/-- A record of a kind of which the queue holds one at most is the only one. -/
theorem eq_none_around {p : Record → Bool} {a b : List Record} {r : Record} (one : (a ++ r :: b).countP p ≤ 1) (hr : p r = true) :
    ∀ q ∈ a ++ b, ¬p q = true := by
  rw [List.countP_append, List.countP_cons_of_pos hr] at one
  refine List.countP_eq_zero.mp ?_
  rw [List.countP_append]
  omega

/-- What the host buffers ask of a host record is the same for another. -/
structure Record.HostAlike (r r' : Record) : Prop where
  source : r.source = r'.source
  kind : r.kind = r'.kind
  count : r.count = r'.count
  done : r.kind = .read → r.done = r'.done
  staging : r.state = .staging ↔ r'.state = .staging

theorem Record.HostAlike.rfl {r : Record} : r.HostAlike r := ⟨Eq.refl _, Eq.refl _, Eq.refl _, fun _ => Eq.refl _, Iff.rfl⟩

theorem Record.HostAlike.isHostRead {r r' : Record} (h : r.HostAlike r') : r.isHostRead = r'.isHostRead := by
  unfold Record.isHostRead; rw [h.source, h.kind]

theorem Record.HostAlike.isHostWrite {r r' : Record} (h : r.HostAlike r') : r.isHostWrite = r'.isHostWrite := by
  unfold Record.isHostWrite; rw [h.source, h.kind]

theorem HostUnit.Serves.alike {u : HostUnit} {r r' : Record} (h : u.Serves r) (hr : r.HostAlike r') : u.Serves r' := by
  unfold HostUnit.Serves at h ⊢
  simp only [← hr.kind, ← hr.staging, ← hr.count]
  exact h

/-! ### The law of the host buffers in another state -/

section
variable {s t : State} (h : s.HostLaw)
include h

/-- The same host unit with a queue whose host records are alike. -/
theorem State.HostLaw.alike (host : t.host = s.host) (reads : t.hrdPend = s.hrdPend) (writes : t.hwrPend = s.hwrPend)
    (from_ : ∀ r' ∈ t.queue, r'.source = .host → ∃ r ∈ s.queue, r.HostAlike r') : t.HostLaw := by
  refine ⟨by rw [host]; exact h.readRoom, by rw [host]; exact h.writeRoom, fun r' hr' hread => ?_, fun r' hr' hwrite => ?_, ?_, ?_, ?_⟩
  · obtain ⟨r, hr, halike⟩ := from_ r' hr' ((r'.isHostRead_iff).mp hread).1
    have hread' := halike.isHostRead.trans hread
    rw [host, ← halike.done ((r.isHostRead_iff).mp hread').2]
    exact h.reads r hr hread'
  · obtain ⟨r, hr, halike⟩ := from_ r' hr' ((r'.isHostWrite_iff).mp hwrite).1
    rw [host]
    exact (h.writes r hr (halike.isHostWrite.trans hwrite)).alike halike
  · rw [writes, host]; exact h.closed
  · rw [reads, host]; exact h.latch
  · rw [reads, host]; exact h.rdbad

/-- The same work in the queue, staged where it was staged. -/
theorem State.HostLaw.work (host : t.host = s.host) (work : SameWork s.queue t.queue)
    (from_ : ∀ r' ∈ t.queue, ∃ r ∈ s.queue, r.HostAlike r') : t.HostLaw := by
  have any (p : Record → Bool) : t.queue.any (p ∘ Record.work) = s.queue.any (p ∘ Record.work) := by
    rw [← List.any_map, work, List.any_map]
  exact h.alike host (any Record.isHostRead) (any Record.isHostWrite) fun r' hr' _ => from_ r' hr'

/-- Records of channels come and go. -/
theorem State.HostLaw.channels (host : t.host = s.host)
    (same : t.queue.filter (·.source == .host) = s.queue.filter (·.source == .host)) : t.HostLaw := by
  have mem {r : Record} (hsource : r.source = .host) : r ∈ t.queue ↔ r ∈ s.queue := by
    have hmem : r ∈ t.queue.filter (·.source == .host) ↔ r ∈ s.queue.filter (·.source == .host) := by rw [same]
    simpa [hsource] using hmem
  have any {p : Record → Bool} (hp : ∀ r, p r = true → r.source = .host) : t.queue.any p = s.queue.any p := by
    rw [Bool.eq_iff_iff, List.any_eq_true, List.any_eq_true]
    exact exists_congr fun r => and_congr_left fun hr => mem (hp r hr)
  exact h.alike host (any fun r hr => ((r.isHostRead_iff).mp hr).1) (any fun r hr => ((r.isHostWrite_iff).mp hr).1)
    fun r' hr' hsource => ⟨r', (mem hsource).mp hr', .rfl⟩

/-- With a host read in the queue nothing is latched and RDBAD is clear. -/
theorem State.HostLaw.reading (hr : s.hrdPend = true) : s.host.readLatch = none ∧ s.host.rdbad = false :=
  ⟨h.latch.resolve_right fun k => absurd (hr.symm.trans k.1) nofun, h.rdbad.resolve_right fun k => absurd (hr.symm.trans k.1) nofun⟩

/-- Without a host write in the queue the write buffer is closed and empty. -/
theorem State.HostLaw.noWrite (hw : s.hwrPend = false) : s.host.writeOpen = none ∧ s.host.writeBuf = [] :=
  h.closed.resolve_left fun k => absurd (hw.symm.trans k) nofun

/-- A byte write finds the write buffer closed and empty; every host write that is not STAGING finds it closed. -/
theorem State.HostLaw.byte {r : Record} (hr : r ∈ s.queue) (hwrite : r.isHostWrite = true) (hk : r.kind ≠ .write) :
    s.host.writeOpen = none ∧ s.host.writeBuf = [] := by
  have serves := h.writes r hr hwrite
  unfold HostUnit.Serves at serves
  rwa [if_neg hk] at serves

theorem State.HostLaw.shut {r : Record} (hr : r ∈ s.queue) (hwrite : r.isHostWrite = true) (hstate : r.state ≠ .staging) :
    s.host.writeOpen = none := by
  have serves := h.writes r hr hwrite
  unfold HostUnit.Serves at serves
  rw [if_neg hstate] at serves
  split at serves <;> exact serves.1

end

/-! ### Admissions and cancellations -/

section
variable {s : State} (h : s.HostLaw)
include h

/-- A host read is admitted with the read buffer empty (R99). -/
theorem State.HostLaw.joinRead (empty : s.host.readBuf = []) {r : Record} (hr : r.isHostRead = true) (hdone : r.done = 0) :
    (s.join r).HostLaw := by
  have notWrite : ¬r.isHostWrite = true := fun hw => ((r.isHostWrite_iff).mp hw).2 ((r.isHostRead_iff).mp hr).2
  have length : s.host.readBuf.length = 0 := by rw [empty]; rfl
  have writes : (s.join r).hwrPend = s.hwrPend := by simp [State.hwrPend, State.join, notWrite]
  have old {q : Record} (hq : q ∈ (s.join r).queue) : q ∈ s.queue ∨ q = r := by simpa [State.join] using hq
  refine ⟨h.readRoom, h.writeRoom, fun q hq hread => ?_, fun q hq hwrite => ?_, writes ▸ h.closed, .inl ?_, .inl ?_⟩
  · rcases old hq with hq | rfl
    · exact h.reads q hq hread
    · exact length.trans hdone.symm
  · rcases old hq with hq | rfl
    · exact h.writes q hq hwrite
    · exact absurd hwrite notWrite
  · exact h.latch.resolve_right fun k => k.2 empty
  · exact h.rdbad.resolve_right fun k => k.2 empty

/-- A host write-kind record is admitted with the host unit `u` that serves it (R104, R108). -/
theorem State.HostLaw.joinWrite (free : s.hwrPend = false) {r : Record} (hr : r.isHostWrite = true) {u : HostUnit} (serves : u.Serves r)
    (room : u.writeBuf.length ≤ 16) (hu : u.readBuf = s.host.readBuf ∧ u.readLatch = s.host.readLatch ∧ u.rdbad = s.host.rdbad) :
    ({ s.join r with host := u } : State).HostLaw := by
  obtain ⟨hbuf, hlatch, hbad⟩ := hu
  have notRead : ¬r.isHostRead = true := fun hw => ((r.isHostWrite_iff).mp hr).2 ((r.isHostRead_iff).mp hw).2
  have reads : (s.join r).hrdPend = s.hrdPend := by simp [State.hrdPend, State.join, notRead]
  have old {q : Record} (hq : q ∈ (s.join r).queue) : q ∈ s.queue ∨ q = r := by simpa [State.join] using hq
  refine ⟨hbuf ▸ h.readRoom, room, fun q hq hread => ?_, fun q hq hwrite => ?_, .inl ?_, ?_, ?_⟩
  · rcases old hq with hq | rfl
    · exact hbuf ▸ h.reads q hq hread
    · exact absurd hread notRead
  · rcases old hq with hq | rfl
    · exact absurd hwrite ((s.hwrPend_eq_false).mp free q hq)
    · exact serves
  · exact State.hwrPend_join s hr
  · show u.readLatch = none ∨ (s.join r).hrdPend = false ∧ u.readBuf ≠ []
    rw [hlatch, hbuf, reads]; exact h.latch
  · show u.rdbad = false ∨ (s.join r).hrdPend = false ∧ u.readBuf ≠ []
    rw [hbad, hbuf, reads]; exact h.rdbad

/-- The last word of a STAGING write closes the write buffer (R106). -/
theorem State.HostLaw.stage (hrec : ∀ r ∈ s.queue, r.Law) {n : Nat} {buf : List Data} (isOpen : s.host.writeOpen = some n)
    (last : n = buf.length) :
    (State.stagingToWaiting { s with host := { s.host with writeBuf := buf, heldLow := none, writeOpen := none } }).HostLaw := by
  obtain ⟨hstaged, w, hw, hwrite⟩ := h.staged isOpen
  have from_ {q' : Record}
      (hq' : q' ∈ s.queue.map fun r => if r.source = .host ∧ r.state = .staging then { r with state := .waiting } else r) :
      ∃ q ∈ s.queue, q'.source = q.source ∧ q'.kind = q.kind ∧ q'.done = q.done ∧ q'.count = q.count ∧
        (q.source = .host → q'.state ≠ .staging) := by
    obtain ⟨q, hq, rfl⟩ := List.mem_map.mp hq'
    refine ⟨q, hq, ?_⟩
    split
    · exact ⟨rfl, rfl, rfl, rfl, fun _ => nofun⟩
    · next hnot => exact ⟨rfl, rfl, rfl, rfl, fun hsource hstate => hnot ⟨hsource, hstate⟩⟩
  have any {p : Record → Bool} (hp : ∀ r : Record, p { r with state := .waiting } = p r) :
      (s.queue.map fun r => if r.source = .host ∧ r.state = .staging then { r with state := .waiting } else r).any p = s.queue.any p := by
    rw [List.any_map]
    congr 1
    funext r
    show p (if _ then _ else _) = p r
    split
    · exact hp r
    · rfl
  have reads := any (p := Record.isHostRead) fun _ => rfl
  have count : n ≤ 16 := by
    obtain ⟨_, _, hcount, _⟩ := hstaged w hw hwrite
    exact hcount ▸ (hrec w hw).hostCount ((w.isHostWrite_iff).mp hwrite).1
  refine ⟨h.readRoom, last ▸ count, fun q' hq' hread => ?_, fun q' hq' hwrite' => ?_, .inl ?_, ?_, ?_⟩
  · obtain ⟨q, hq, hsource, hkind, hdone, _⟩ := from_ hq'
    rw [hdone]
    exact h.reads q hq (by rw [Record.isHostRead_iff] at hread ⊢; rwa [← hsource, ← hkind])
  · obtain ⟨q, hq, hsource, hkind, _, hcount, hstate⟩ := from_ hq'
    have hqw : q.isHostWrite = true := by rw [Record.isHostWrite_iff] at hwrite' ⊢; rwa [← hsource, ← hkind]
    obtain ⟨hqkind, _, hqcount, _⟩ := hstaged q hq hqw
    unfold HostUnit.Serves
    rw [if_pos (hkind.trans hqkind), if_neg (hstate ((q.isHostWrite_iff).mp hqw).1)]
    exact ⟨rfl, last.symm.trans (hqcount.symm.trans hcount.symm)⟩
  · exact (any (p := Record.isHostWrite) fun _ => rfl).trans (State.hwrPend_of_mem hw hwrite)
  · exact h.latch.imp_right fun k => ⟨reads.trans k.1, k.2⟩
  · exact h.rdbad.imp_right fun k => ⟨reads.trans k.1, k.2⟩

/-- The host records that have not started are taken back (R110). -/
theorem State.HostLaw.withdrawHost (one : s.queue.countP Record.isHostWrite ≤ 1) : s.withdrawHost.HostLaw := by
  have kept {q : Record} (hq : q ∈ s.withdrawHost.queue) : q ∈ s.queue ∧ ¬q.cancellable = true := by
    have hq : q ∈ s.queue.filter fun r => !r.cancellable := hq
    simpa using hq
  have reads (hp : s.hrdPend = false) : s.withdrawHost.hrdPend = false :=
    (s.withdrawHost.hrdPend_eq_false).mpr fun q hq => (s.hrdPend_eq_false).mp hp q (kept hq).1
  have readBuf : s.withdrawHost.host.readBuf = s.host.readBuf := by unfold State.withdrawHost; dsimp only; split <;> rfl
  have readLatch : s.withdrawHost.host.readLatch = s.host.readLatch := by unfold State.withdrawHost; dsimp only; split <;> rfl
  have rdbad : s.withdrawHost.host.rdbad = s.host.rdbad := by unfold State.withdrawHost; dsimp only; split <;> rfl
  by_cases hany : s.queue.any Record.cancellableWrite = true
  · obtain ⟨w, hw, hcancel⟩ := List.any_eq_true.mp hany
    simp only [Record.cancellableWrite, Bool.and_eq_true, beq_iff_eq] at hcancel
    obtain ⟨hgone, hkind⟩ := hcancel
    have hsource : w.source = .host := by
      simp only [Record.cancellable, Bool.and_eq_true, beq_iff_eq] at hgone
      exact hgone.1
    have hwrite : w.isHostWrite = true := (w.isHostWrite_iff).mpr ⟨hsource, by rw [hkind]; nofun⟩
    have host : s.withdrawHost.host = { s.host with writeBuf := [], writeOpen := none, heldLow := none } := if_pos hany
    refine ⟨readBuf ▸ h.readRoom, by rw [host]; exact Nat.zero_le 16, fun q hq hread => readBuf ▸ h.reads q (kept hq).1 hread,
      fun q hq hqw => ?_, .inr (by rw [host]; exact ⟨rfl, rfl⟩), ?_, ?_⟩
    · obtain ⟨a, b, hsplit⟩ := List.append_of_mem hw
      rw [hsplit] at one
      have hq' := (kept hq).1
      rw [hsplit] at hq'
      rcases List.mem_append.mp hq' with hq' | hq'
      · exact absurd hqw (eq_none_around one hwrite q (List.mem_append_left _ hq'))
      · rcases List.mem_cons.mp hq' with rfl | hq'
        · exact absurd hgone (kept hq).2
        · exact absurd hqw (eq_none_around one hwrite q (List.mem_append_right _ hq'))
    · rw [readLatch, readBuf]; exact h.latch.imp_right fun k => ⟨reads k.1, k.2⟩
    · rw [rdbad, readBuf]; exact h.rdbad.imp_right fun k => ⟨reads k.1, k.2⟩
  · have host : s.withdrawHost.host = s.host := if_neg hany
    refine ⟨readBuf ▸ h.readRoom, host ▸ h.writeRoom, fun q hq hread => readBuf ▸ h.reads q (kept hq).1 hread,
      fun q hq hqw => host ▸ h.writes q (kept hq).1 hqw, ?_, ?_, ?_⟩
    · rw [host]
      rcases h.closed with hpend | hclosed
      · obtain ⟨w, hw, hwrite⟩ := List.any_eq_true.mp hpend
        by_cases hgone : w.cancellable = true
        · refine .inr (h.byte hw hwrite fun hkind => hany (List.any_eq_true.mpr ⟨w, hw, ?_⟩))
          simp [Record.cancellableWrite, hgone, hkind]
        · exact .inl (State.hwrPend_of_mem (List.mem_filter.mpr ⟨hw, by simpa using hgone⟩) hwrite)
      · exact .inr hclosed
    · rw [readLatch, readBuf]; exact h.latch.imp_right fun k => ⟨reads k.1, k.2⟩
    · rw [rdbad, readBuf]; exact h.rdbad.imp_right fun k => ⟨reads k.1, k.2⟩

end

end Sys2Proof.Machine
end

section
/-! Every change keeps the law of the host buffers. -/

namespace Sys2Proof.Machine

/-- The movement of a word changes the host unit where it is a host read's (R28). -/
theorem State.moveWord_host (s : State) (r : Record) :
    (s.moveWord r).host =
      if r.isHostRead = true then { s.host with readBuf := s.host.readBuf ++ [(s.wordAt r).data] } else s.host := by
  unfold State.moveWord State.deliver State.takeWord Record.isHostRead
  cases r.kind with
  | read => cases r.source <;> rfl
  | write => cases r.source <;> rfl
  | byteWrite =>
    rw [if_neg (by simp)]
    dsimp only
    split
    · rfl
    · split <;> rfl

/-! ### Words, completions and removals -/

section
variable {s t : State} (h : s.HostLaw) {a b : List Record} {r : Record} (hq : s.queue = a ++ r :: b)
include h hq

/-- A host read with a word more in its buffer: the buffer has room, and no other host read stands in the queue. -/
theorem State.HostLaw.readWord (hrec : ∀ r ∈ s.queue, r.Law) (limits : QueueLaw s.queue) (hread : r.isHostRead = true) :
    (s.moveWord r).host.readBuf.length = r.done + 1 ∧ r.done + 1 ≤ 16 ∧ ∀ q ∈ a ++ b, ¬q.isHostRead = true := by
  have member : r ∈ s.queue := by simp [hq]
  have law := hrec r member
  have short := law.hostCount ((r.isHostRead_iff).mp hread).1
  have more := law.more
  refine ⟨?_, by omega, eq_none_around (hq ▸ limits.reads) hread⟩
  rw [State.moveWord_host, if_pos hread, List.length_append, h.reads r member hread]
  rfl

/-- A word that is not the last moves (R28, R100, R107). -/
theorem State.HostLaw.word (hrec : ∀ r ∈ s.queue, r.Law) (limits : QueueLaw s.queue) {bad : Bool}
    (host : t.host = (s.moveWord r).host) (queue : t.queue = a ++ r.wordDone bad :: b) : t.HostLaw := by
  have any {p : Record → Bool} (hp : p (r.wordDone bad) = p r) : t.queue.any p = s.queue.any p := by
    simp only [queue, hq, List.any_append, List.any_cons, hp]
  have reads : t.hrdPend = s.hrdPend := any rfl
  have writes : t.hwrPend = s.hwrPend := any rfl
  have old {q : Record} (hqt : q ∈ t.queue) : q ∈ a ++ b ∨ q = r.wordDone bad := by
    rw [queue] at hqt
    simp only [List.mem_append, List.mem_cons] at hqt ⊢
    tauto
  have before {q : Record} (hab : q ∈ a ++ b) : q ∈ s.queue := by
    rw [hq]; exact ((List.sublist_cons_self r b).append_left a).subset hab
  by_cases hread : r.isHostRead = true
  · obtain ⟨length, short, others⟩ := h.readWord hq hrec limits hread
    have pending := State.hrdPend_of_mem (s := s) (by simp [hq]) hread
    obtain ⟨latch, rdbad⟩ := h.reading pending
    rw [State.moveWord_host, if_pos hread] at host
    rw [State.moveWord_host, if_pos hread] at length
    refine ⟨by rw [host]; omega, by rw [host]; exact h.writeRoom, fun q hqt hqread => ?_, fun q hqt hqwrite => ?_,
      by rw [writes, host]; exact h.closed, .inl (by rw [host]; exact latch), .inl (by rw [host]; exact rdbad)⟩
    · rcases old hqt with hab | rfl
      · exact absurd hqread (others q hab)
      · rw [host]; exact length
    · rcases old hqt with hab | rfl
      · rw [host]; exact h.writes q (before hab) hqwrite
      · exact absurd ((r.isHostRead_iff).mp hread).2 ((Record.isHostWrite_iff _).mp hqwrite).2
  · rw [State.moveWord_host, if_neg hread] at host
    refine h.alike host reads writes fun q hqt hsource => ?_
    rcases old hqt with hab | rfl
    · exact ⟨q, before hab, .rfl⟩
    · exact ⟨r, by simp [hq], rfl, rfl, rfl, fun hkind => absurd ((r.isHostRead_iff).mpr ⟨hsource, hkind⟩) hread, Iff.rfl⟩

/-- The last word moves, and its record completes (R89, R103, R107). -/
theorem State.HostLaw.complete (hrec : ∀ r ∈ s.queue, r.Law) (limits : QueueLaw s.queue) (active : r.state = .active) {bad : Bool}
    (host : t.host = (s.moveWord r).host.completed r bad) (queue : t.queue = a ++ b) : t.HostLaw := by
  have member : r ∈ s.queue := by simp [hq]
  have before {q : Record} (hqt : q ∈ t.queue) : q ∈ s.queue := by
    rw [queue] at hqt
    rw [hq]; exact ((List.sublist_cons_self r b).append_left a).subset hqt
  have without {p : Record → Bool} (hp : ¬p r = true) : t.queue.any p = s.queue.any p := by
    simp only [queue, hq, List.any_append, List.any_cons, Bool.eq_false_iff.mpr hp, Bool.false_or]
  cases hsource : r.source with
  | host =>
    by_cases hread : r.isHostRead = true
    · have hkind := ((r.isHostRead_iff).mp hread).2
      obtain ⟨length, short, others⟩ := h.readWord hq hrec limits hread
      have pending := State.hrdPend_of_mem member hread
      obtain ⟨latch, _⟩ := h.reading pending
      have notWrite : ¬r.isHostWrite = true := fun hw => ((r.isHostWrite_iff).mp hw).2 hkind
      have writes : t.hwrPend = s.hwrPend := without notWrite
      have released : t.hrdPend = false := (t.hrdPend_eq_false).mpr fun q hqt => others q (queue ▸ hqt)
      simp only [HostUnit.completed, hsource, hkind] at host
      have readBuf : t.host.readBuf = (s.moveWord r).host.readBuf := by rw [host]
      rw [State.moveWord_host, if_pos hread] at host
      have nonempty : t.host.readBuf ≠ [] := fun he => by
        rw [← readBuf, he] at length
        cases length
      refine ⟨by rw [readBuf]; omega, by rw [host]; exact h.writeRoom, fun q hqt hqread => ?_, fun q hqt hqwrite => ?_,
        by rw [writes, host]; exact h.closed, .inl (by rw [host]; exact latch), .inr ⟨released, nonempty⟩⟩
      · exact absurd hqread (others q (queue ▸ hqt))
      · rw [host]; exact h.writes q (before hqt) hqwrite
    · have hkind : r.kind ≠ .read := fun hk => hread ((r.isHostRead_iff).mpr ⟨hsource, hk⟩)
      have hwrite : r.isHostWrite = true := (r.isHostWrite_iff).mpr ⟨hsource, hkind⟩
      have shut := h.shut member hwrite (by rw [active]; nofun)
      have others := eq_none_around (hq ▸ limits.writes) hwrite
      have reads : t.hrdPend = s.hrdPend := without hread
      have emptied : t.host = { s.host with writeBuf := [] } := by
        rw [host, State.moveWord_host, if_neg hread]
        unfold HostUnit.completed
        rw [hsource]
        cases hk : r.kind with
        | read => exact absurd hk hkind
        | _ => rfl
      refine ⟨by rw [emptied]; exact h.readRoom, by rw [emptied]; exact Nat.zero_le 16, fun q hqt hqread => ?_,
        fun q hqt hqwrite => absurd hqwrite (others q (queue ▸ hqt)), .inr (by rw [emptied]; exact ⟨shut, rfl⟩), ?_, ?_⟩
      · rw [emptied]; exact h.reads q (before hqt) hqread
      · rw [emptied, reads]; exact h.latch
      · rw [emptied, reads]; exact h.rdbad
  | chan c =>
    have notRead : ¬r.isHostRead = true := fun hread => by
      rw [((r.isHostRead_iff).mp hread).1] at hsource
      cases hsource
    refine h.channels ?_ ?_
    · rw [host, State.moveWord_host, if_neg notRead]
      unfold HostUnit.completed
      rw [hsource]
    · rw [queue, hq, List.filter_append, List.filter_append, List.filter_cons_of_neg (by simp [hsource])]

/-- The record in flight leaves in QUIESCING with what waited for it (R94, R111). -/
theorem State.HostLaw.remove (alone : a = [] ∧ b = [])
    (host : t.host = ((s.leaves a r b).clearWaiting r).host) (queue : t.queue = []) : t.HostLaw := by
  have member : r ∈ s.queue := by simp [hq]
  have only {q : Record} (hqs : q ∈ s.queue) : q = r := by simpa [hq, alone] using hqs
  have gone (q : Record) : q ∉ t.queue := by rw [queue]; exact List.not_mem_nil
  have noReads : t.hrdPend = false := by unfold State.hrdPend; rw [queue]; rfl
  have leaves : (s.leaves a r b).host = (s.moveWord r).host := rfl
  have empty {u : HostUnit} (hu : t.host = u) (readRoom : u.readBuf.length ≤ 16) (closed : u.writeOpen = none ∧ u.writeBuf = [])
      (latch : u.readLatch = none ∨ u.readBuf ≠ []) (rdbad : u.rdbad = false ∨ u.readBuf ≠ []) : t.HostLaw := by
    subst hu
    exact ⟨readRoom, by rw [closed.2]; exact Nat.zero_le 16, fun q hq => absurd hq (gone q), fun q hq => absurd hq (gone q),
      .inr closed, latch.imp_right fun k => ⟨noReads, k⟩, rdbad.imp_right fun k => ⟨noReads, k⟩⟩
  by_cases hread : r.isHostRead = true
  · obtain ⟨hsource, hkind⟩ := (r.isHostRead_iff).mp hread
    have noWrite := h.noWrite ((s.hwrPend_eq_false).mpr fun q hqs hw => by
      rw [only hqs] at hw
      exact ((r.isHostWrite_iff).mp hw).2 hkind)
    have latch := (h.reading (State.hrdPend_of_mem member hread)).1
    refine empty (u := { s.host with readBuf := [], rdbad := false }) ?_ (Nat.zero_le 16) noWrite (.inl latch) (.inl rfl)
    rw [host, State.clearWaiting, hsource, hkind]
    simp only [leaves, State.moveWord_host, if_pos hread]
  · have free : s.hrdPend = false := (s.hrdPend_eq_false).mpr fun q hqs hr => by
      rw [only hqs] at hr
      exact hread hr
    have moved : (s.leaves a r b).host = s.host := by rw [leaves, State.moveWord_host, if_neg hread]
    have latch := h.latch.imp_right And.right
    have rdbad := h.rdbad.imp_right And.right
    cases hsource : r.source with
    | host =>
      have hkind : r.kind ≠ .read := fun hk => hread ((r.isHostRead_iff).mpr ⟨hsource, hk⟩)
      have hwrite : r.isHostWrite = true := (r.isHostWrite_iff).mpr ⟨hsource, hkind⟩
      cases hk : r.kind with
      | read => exact absurd hk hkind
      | write =>
        refine empty (u := { s.host with writeBuf := [], writeOpen := none }) ?_ h.readRoom ⟨rfl, rfl⟩ latch rdbad
        rw [host, State.clearWaiting, hsource, hk]
        simp only [moved]
      | byteWrite =>
        refine empty (u := s.host) ?_ h.readRoom (h.byte member hwrite (by rw [hk]; nofun)) latch rdbad
        rw [host, State.clearWaiting, hsource, hk]
        exact moved
    | chan c =>
      have noWrite := h.noWrite ((s.hwrPend_eq_false).mpr fun q hqs hw => by
        rw [only hqs] at hw
        rw [((r.isHostWrite_iff).mp hw).1] at hsource
        cases hsource)
      refine empty (u := s.host) ?_ h.readRoom noWrite latch rdbad
      rw [host, State.clearWaiting, hsource]
      exact moved

end

/-! ### The traffic reset -/

/-- What the record in flight needs of the host unit waits for its removal; the rest is as after reset (R94, R111). -/
theorem State.HostLaw.resetHost {s t : State} (h : s.HostLaw) (host : t.host = s.resetHost)
    (queue : t.queue = s.queue.filter (·.state == .active)) : t.HostLaw := by
  have active {q : Record} (hqt : q ∈ t.queue) : q ∈ s.queue ∧ q.state = .active := by
    rw [queue] at hqt
    simpa using hqt
  have flight {q : Record} (hqt : q ∈ t.queue) (hsource : q.source = .host) : s.hostInFlight q.kind = true := by
    obtain ⟨hqs, hactive⟩ := active hqt
    exact List.any_eq_true.mpr ⟨q, hqs, by simp [hactive, hsource]⟩
  have inQueue {k : Kind} (hk : s.hostInFlight k = true) : ∃ q ∈ s.queue, q ∈ t.queue ∧ q.source = .host ∧ q.kind = k := by
    obtain ⟨q, hqs, hprop⟩ := List.any_eq_true.mp hk
    simp only [Bool.and_eq_true, beq_iff_eq] at hprop
    obtain ⟨⟨hactive, hsource⟩, hkind⟩ := hprop
    exact ⟨q, hqs, queue ▸ List.mem_filter.mpr ⟨hqs, by simp [hactive]⟩, hsource, hkind⟩
  have readBuf : t.host.readBuf = if s.hostInFlight .read then s.host.readBuf else [] := by rw [host]; rfl
  have writeBuf : t.host.writeBuf = if s.hostInFlight .write then s.host.writeBuf else [] := by rw [host]; rfl
  have writeOpen : t.host.writeOpen = if s.hostInFlight .write then s.host.writeOpen else none := by rw [host]; rfl
  have rdbad : t.host.rdbad = if s.hostInFlight .read then s.host.rdbad else false := by rw [host]; rfl
  refine ⟨?_, ?_, fun q hqt hread => ?_, fun q hqt hwrite => ?_, ?_, .inl (by rw [host]; rfl), .inl ?_⟩
  · rw [readBuf]; split
    · exact h.readRoom
    · exact Nat.zero_le 16
  · rw [writeBuf]; split
    · exact h.writeRoom
    · exact Nat.zero_le 16
  · obtain ⟨hsource, hkind⟩ := (q.isHostRead_iff).mp hread
    rw [readBuf, if_pos (hkind ▸ flight hqt hsource)]
    exact h.reads q (active hqt).1 hread
  · have serves := h.writes q (active hqt).1 hwrite
    unfold HostUnit.Serves at serves ⊢
    rw [writeOpen, writeBuf]
    by_cases hkind : q.kind = .write
    · have inFlight := flight hqt ((q.isHostWrite_iff).mp hwrite).1
      rw [hkind] at inFlight
      rw [if_pos inFlight, if_pos inFlight]
      exact serves
    · rw [if_neg hkind] at serves ⊢
      rw [serves.1, serves.2, ite_self, ite_self]
      exact ⟨rfl, rfl⟩
  · rw [writeOpen, writeBuf]
    split
    · next hk =>
      obtain ⟨q, _, hqt, hsource, hkind⟩ := inQueue hk
      exact .inl (State.hwrPend_of_mem hqt ((q.isHostWrite_iff).mpr ⟨hsource, by rw [hkind]; nofun⟩))
    · exact .inr ⟨rfl, rfl⟩
  · rw [rdbad]
    split
    · next hk =>
      obtain ⟨q, hqs, _, hsource, hkind⟩ := inQueue hk
      exact (h.reading (State.hrdPend_of_mem hqs ((q.isHostRead_iff).mpr ⟨hsource, hkind⟩))).2
    · rfl

/-- An idle host unit without host records (R96). -/
theorem State.HostLaw.idle {t : State} (host : t.host = HostUnit.reset) (queue : t.queue = []) : t.HostLaw := by
  have gone (q : Record) : q ∉ t.queue := by rw [queue]; exact List.not_mem_nil
  exact ⟨by rw [host]; exact Nat.zero_le 16, by rw [host]; exact Nat.zero_le 16, fun q hq => absurd hq (gone q),
    fun q hq => absurd hq (gone q), .inr (by rw [host]; exact ⟨rfl, rfl⟩), .inl (by rw [host]; rfl), .inl (by rw [host]; rfl)⟩

end Sys2Proof.Machine
end

section
/-! The host buffers through every change. -/

namespace Sys2Proof.Machine

/-! ### The host buffers -/

theorem HostAlike.map {f : Record → Record} {q : List Record} (hf : ∀ r ∈ q, r.HostAlike (f r)) :
    ∀ r' ∈ q.map f, ∃ r ∈ q, r.HostAlike r' := by
  intro r' hr'
  obtain ⟨r, hr, rfl⟩ := List.mem_map.mp hr'
  exact ⟨r, hr, hf r hr⟩

theorem HostAlike.around {a a' b : List Record} {r r' : Record} (ha : ∀ p' ∈ a', ∃ p ∈ a, p.HostAlike p') (hr : r.HostAlike r') :
    ∀ p' ∈ a' ++ r' :: b, ∃ p ∈ a ++ r :: b, p.HostAlike p' := by
  intro p' hp'
  rcases List.mem_append.mp hp' with hp' | hp'
  · obtain ⟨p, hp, halike⟩ := ha p' hp'
    exact ⟨p, List.mem_append_left _ hp, halike⟩
  · rcases List.mem_cons.mp hp' with rfl | hp'
    · exact ⟨r, by simp, hr⟩
    · exact ⟨p', by simp [hp'], .rfl⟩

/-- Every change keeps the law of the host buffers (R96, R100, R104, R106, R107). -/
theorem Change.hostLaw {s t : State} (h : Change s t) (hs : s.Agrees) (hrec : ∀ r ∈ s.queue, r.Law) (limits : QueueLaw s.queue)
    (hl : s.HostLaw) : t.HostLaw := by
  have self (a : List Record) : ∀ p' ∈ a, ∃ p ∈ a, p.HostAlike p' := fun p' hp' => ⟨p', hp', .rfl⟩
  have dropped (b : Bank) : ∀ r ∈ s.queue, r.HostAlike (if r.bank = b then { r with selected := none } else r) := fun r _ => by
    split <;> exact ⟨rfl, rfl, rfl, fun _ => rfl, Iff.rfl⟩
  have ofChannels {p : Record → Bool} (hp : ∀ r : Record, r.source = .host → p r = true) :
      (s.queue.filter p).filter (·.source == .host) = s.queue.filter (·.source == .host) := by
    rw [List.filter_filter]
    refine List.filter_congr fun r _ => ?_
    cases hsource : r.source with
    | host => simp [hp r hsource]
    | chan c => rfl
  cases h with
  | aside t core =>
    rw [← State.hostBuffers_iff] at hl ⊢
    show t.core.hostBuffers = true
    rw [core]; exact hl
  | host u kept => exact (State.hostBuffers_iff _).mp (kept (s.recordsOk_iff.mpr hrec) (s.hostBuffers_iff.mpr hl))
  | reset => exact State.HostLaw.idle rfl rfl
  | quiesce => exact hl.resetHost rfl rfl
  | quiesced mode empty => exact State.HostLaw.idle rfl empty
  | drop b => exact hl.work rfl (s.sameWork_dropSelection b) (HostAlike.map (dropped b))
  | select b line i r place =>
    refine hl.work rfl (s.sameWork_select line i) ?_
    rw [State.select_queue]
    obtain ⟨a, c, hq, rfl⟩ := exists_split_of_getElem? place
    rw [hq, modify_length_append]
    exact HostAlike.around (self a) ⟨rfl, rfl, rfl, fun _ => rfl, Iff.rfl⟩
  | precharge b => exact hl.work rfl (s.sameWork_dropSelection b) (HostAlike.map (dropped b))
  | joinRead mode room free empty => exact hl.joinRead empty rfl rfl
  | joinWrite mode room free ok =>
    have count := ((Record.ok_iff _).mp ok).nonempty
    exact hl.joinWrite free rfl ⟨rfl, count⟩ (Nat.zero_le 16) ⟨rfl, rfl, rfl⟩
  | joinByte mode room free =>
    exact hl.joinWrite free rfl (hl.noWrite free) hl.writeRoom ⟨rfl, rfl, rfl⟩
  | post c => exact hl.channels rfl (by rw [State.postBurst, List.filter_append]; exact List.append_nil _)
  | stage n buf isOpen last => exact hl.stage hrec isOpen last
  | age c =>
    refine hl.work rfl (SameWork.map (Record.aged_work c) _) (HostAlike.map fun r _ => ?_)
    unfold Record.aged
    split <;> exact ⟨rfl, rfl, rfl, fun _ => rfl, Iff.rfl⟩
  | withdraw c => exact hl.channels rfl (ofChannels fun r hsource => by simp [Record.removable, hsource])
  | cancel => exact (hl.withdrawHost limits.writes).alike rfl rfl rfl fun r hr _ => ⟨r, hr, .rfl⟩
  | grant a a' r b hq _ _ selected older =>
    refine hl.work rfl (hq ▸ SameWork.around (SameWork.passedOver older) (by rfl)) ?_
    rw [hq]
    refine HostAlike.around (fun p' hp' => ?_) ⟨rfl, rfl, rfl, fun _ => rfl, iff_of_false (fun hstate => ?_) nofun⟩
    · obtain ⟨p, hp, rfl | rfl⟩ := exists_of_passedOver older hp'
      · exact ⟨_, hp, .rfl⟩
      · exact ⟨p, hp, rfl, rfl, rfl, fun _ => rfl, Iff.rfl⟩
    · rcases (hrec r (by simp [hq])).selected with none | waiting | resumable
      · rw [none] at selected; cases selected
      · rw [hstate] at waiting; cases waiting
      · rw [hstate] at resumable; cases resumable
  | word a r b bad hq active => exact hl.word hq hrec limits rfl rfl
  | suspend a r b hq active =>
    refine hl.work rfl (hq ▸ SameWork.around (a := a) (by rfl) (by rfl)) ?_
    rw [hq]
    exact HostAlike.around (self a) ⟨rfl, rfl, rfl, fun _ => rfl, iff_of_false (by rw [active]; nofun) nofun⟩
  | complete a r b bad hq active => exact hl.complete hq hrec limits active rfl rfl
  | remove a r b hq active _ mode =>
    have alone := hs.alone mode hq active
    exact hl.remove hq alone rfl (by rw [alone.1, alone.2]; rfl)
  | _ => exact hl.alike rfl rfl rfl fun r hr _ => ⟨r, hr, .rfl⟩

end Sys2Proof.Machine
end

section
/-! The READY selections through every change, and all that Safety.lean says of the part: O60. -/

namespace Sys2Proof.Machine

/-! ### The READY selections (R13, R27, R83) -/

/-- The bank and the next row of each selected record. -/
def hits (q : List Record) : List (Bank × Row) := (q.filter fun r => r.selected.isSome).map fun r => (r.bank, r.nextRow)

/-- The READY selections, taken apart: of OPEN banks, in their open rows, and one of a bank at most. -/
structure State.SelectionLaw (s : State) : Prop where
  rowHit : ∀ h ∈ hits s.queue, (s.bank h.1).state = .rowOpen ∧ (s.bank h.1).line.openRow = some h.2
  one : ((hits s.queue).map Prod.fst).Nodup

theorem mem_hits {q : List Record} {h : Bank × Row} : h ∈ hits q ↔ ∃ r ∈ q, r.selected ≠ none ∧ r.bank = h.1 ∧ r.nextRow = h.2 := by
  simp [hits, Prod.ext_iff, Option.isSome_iff_ne_none, and_assoc]

theorem State.selectionsOk_iff (s : State) : s.selectionsOk = true ↔ s.SelectionLaw := by
  have count (b : Bank) : s.queue.countP (fun r => r.bank == b && r.selected.isSome) = ((hits s.queue).map Prod.fst).count b := by
    rw [hits, List.map_map, List.count, List.countP_map, List.countP_filter]
    rfl
  have rowHit : (∀ r ∈ s.queue, (r.selected.isNone || ((s.bank r.bank).state == .rowOpen &&
      some r.nextRow == (s.bank r.bank).line.openRow)) = true) ↔
      ∀ h ∈ hits s.queue, (s.bank h.1).state = .rowOpen ∧ (s.bank h.1).line.openRow = some h.2 := by
    simp only [Bool.or_eq_true, Bool.and_eq_true, beq_iff_eq, Option.isNone_iff_eq_none, mem_hits]
    constructor
    · rintro hall ⟨b, row⟩ ⟨r, hr, hsel, hbank, hrow⟩
      obtain ⟨hstate, hopen⟩ := (hall r hr).resolve_left hsel
      rw [hbank] at hstate hopen
      exact ⟨hstate, hopen.symm.trans (congrArg some hrow)⟩
    · intro hall r hr
      refine (em (r.selected = none)).imp id fun hsel => ?_
      obtain ⟨hstate, hopen⟩ := hall (r.bank, r.nextRow) ⟨r, hr, hsel, rfl, rfl⟩
      exact ⟨hstate, hopen.symm⟩
  unfold State.selectionsOk
  rw [Bool.and_eq_true, Bank.all_iff, List.all_eq_true, rowHit]
  simp only [decide_eq_true_eq, count, ← List.nodup_iff_count_le_one]
  exact ⟨fun ⟨h1, h2⟩ => ⟨h1, h2⟩, fun ⟨h1, h2⟩ => ⟨h1, h2⟩⟩

theorem sublist_of_eq {α : Type} {l l' : List α} (h : l = l') : l.Sublist l' := h ▸ .refl l

theorem hits_append (a b : List Record) : hits (a ++ b) = hits a ++ hits b := by simp [hits]

theorem hits_cons_none {r : Record} (h : r.selected = none) (q : List Record) : hits (r :: q) = hits q := by simp [hits, h]

theorem hits_cons_some {r : Record} (h : r.selected.isSome = true) (q : List Record) :
    hits (r :: q) = (r.bank, r.nextRow) :: hits q := by simp [hits, h]

theorem hits_sublist {q q' : List Record} (h : q'.Sublist q) : (hits q').Sublist (hits q) := (h.filter _).map _

theorem hits_map {f : Record → Record} (hf : ∀ r, (f r).bank = r.bank ∧ (f r).nextRow = r.nextRow ∧ (f r).selected = r.selected)
    (q : List Record) : hits (q.map f) = hits q := by
  induction q with
  | nil => rfl
  | cons r q ih =>
    obtain ⟨hbank, hrow, hsel⟩ := hf r
    cases hs : r.selected with
    | none => rw [List.map_cons, hits_cons_none (hsel.trans hs), hits_cons_none hs, ih]
    | some line => rw [List.map_cons, hits_cons_some (by rw [hsel, hs]; rfl), hits_cons_some (by rw [hs]; rfl), hbank, hrow, ih]

theorem hits_passedOver {a a' : List Record} (h : List.Forall₂ (fun p p' => p' = p ∨ p' = p.bypassed) a a') : hits a' = hits a := by
  induction h with
  | nil => rfl
  | @cons p p' _ _ hfirst _ ih =>
    have same : hits [p'] = hits [p] := by
      rcases hfirst with rfl | rfl
      · rfl
      · exact hits_map (f := Record.bypassed) (fun _ => ⟨rfl, rfl, rfl⟩) [p]
    exact (hits_append [p'] _).trans ((congrArg₂ (· ++ ·) same ih).trans (hits_append [p] _).symm)

/-- The selections after the drop of those of a bank. -/
theorem hits_dropSelection (s : State) (b : Bank) :
    (hits (s.dropSelection b).queue).Sublist (hits s.queue) ∧ ∀ h ∈ hits (s.dropSelection b).queue, h.1 ≠ b := by
  unfold State.dropSelection
  induction s.queue with
  | nil => exact ⟨.refl _, nofun⟩
  | cons r q ih =>
    obtain ⟨sub, others⟩ := ih
    rw [List.map_cons]
    by_cases hb : r.bank = b
    · rw [if_pos hb, hits_cons_none (by rfl)]
      exact ⟨sub.trans (hits_sublist (List.sublist_cons_self r q)), others⟩
    · rw [if_neg hb]
      cases hs : r.selected with
      | none => rw [hits_cons_none hs, hits_cons_none hs]; exact ⟨sub, others⟩
      | some line =>
        rw [hits_cons_some (by rw [hs]; rfl), hits_cons_some (by rw [hs]; rfl)]
        exact ⟨sub.cons_cons _, fun h hh => (List.mem_cons.mp hh).elim (fun he => by rw [he]; exact hb) (others h)⟩

/-- The lane of a bank that has selected a record keeps its open row where its counters alone move. -/
theorem BankLane.Moves.rowOpen {l l' : BankLane} {m : Mode} (h : l.Moves m l') (hl : l.state = .rowOpen) :
    l'.state = .rowOpen ∧ l'.line.openRow = l.line.openRow := by
  cases h with
  | counts l' state openRow => exact ⟨state.trans hl, openRow⟩
  | passes l' state =>
    rw [hl] at state
    exact absurd state.rowless.1.1 nofun
  | opens row state => rw [hl] at state; cases state
  | closes state => rw [hl] at state; cases state

section
variable {s t : State} (h : s.SelectionLaw)
include h

/-- Selections may be dropped, and the lanes of the rest keep their open rows. -/
theorem State.SelectionLaw.of (sub : (hits t.queue).Sublist (hits s.queue))
    (lanes : ∀ h ∈ hits t.queue, (s.bank h.1).state = .rowOpen →
      (t.bank h.1).state = .rowOpen ∧ (t.bank h.1).line.openRow = (s.bank h.1).line.openRow) : t.SelectionLaw := by
  refine ⟨fun hit hmem => ?_, h.one.sublist (sub.map _)⟩
  obtain ⟨state, row⟩ := h.rowHit hit (sub.subset hmem)
  exact (lanes hit hmem state).imp id fun hopen => hopen.trans row

/-- Selections may be dropped with the lanes as they are. -/
theorem State.SelectionLaw.same (sub : (hits t.queue).Sublist (hits s.queue)) (banks : t.banks = s.banks) : t.SelectionLaw :=
  h.of sub fun hit _ state => by
    unfold State.bank at state ⊢
    rw [banks]
    exact ⟨state, rfl⟩

/-- The lane of one bank changes, of which no record is selected. -/
theorem State.SelectionLaw.setBank (sub : (hits t.queue).Sublist (hits s.queue)) {b : Bank} {l : BankLane}
    (banks : t.banks = s.banks.set b l)
    (none : ∀ h ∈ hits t.queue, h.1 ≠ b) : t.SelectionLaw :=
  h.of sub fun hit hmem state => by
    have other : t.bank hit.1 = s.bank hit.1 := by
      unfold State.bank
      rw [banks, PerBank.get_set_other _ _ (none hit hmem)]
    rw [other]
    exact ⟨state, rfl⟩

end

/-- Without records in the queue nothing is selected. -/
theorem State.SelectionLaw.empty {t : State} (h : t.queue = []) : t.SelectionLaw := by
  refine ⟨?_, ?_⟩
  · rw [h]; exact fun hit hmem => absurd hmem List.not_mem_nil
  · rw [h]; exact List.nodup_nil

/-- Every change keeps the READY selections. -/
theorem Change.selectionLaw {s t : State} (h : Change s t) (hs : s.Agrees) (hrec : ∀ r ∈ s.queue, r.Law) (hl : s.SelectionLaw) :
    t.SelectionLaw := by
  have unselected {a b : List Record} {r : Record} (hq : s.queue = a ++ r :: b) (active : r.state = .active) : r.selected = none := by
    rcases (hrec r (by simp [hq])).selected with none | waiting | resumable
    · exact none
    · rw [active] at waiting; cases waiting
    · rw [active] at resumable; cases resumable
  have around {a b : List Record} {r : Record} (hq : s.queue = a ++ r :: b) (active : r.state = .active) :
      hits (a ++ b) = hits s.queue := by
    rw [hq, hits_append, hits_append, hits_cons_none (unselected hq active)]
  have joined {r : Record} (hr : r.selected = none) : (hits (s.queue ++ [r])).Sublist (hits s.queue) := by
    rw [hits_append, hits_cons_none hr]
    exact sublist_of_eq (List.append_nil _)
  have notTransferring {b : Bank} (transferring : (s.bank b).state = .transferring) : ∀ h ∈ hits s.queue, h.1 ≠ b := by
    rintro hit hmem rfl
    rw [(hl.rowHit hit hmem).1] at transferring
    cases transferring
  have empty {m : Mode} (hm : s.mode = m) (hmode : m = .setup ∨ m = .waking) : s.queue = [] := by
    have queue := hs.queue
    rw [hm] at queue
    rcases hmode with rfl | rfl <;> exact List.isEmpty_iff.mp queue
  cases h with
  | aside t core =>
    rw [← State.selectionsOk_iff] at hl ⊢
    show t.core.selectionsOk = true
    rw [core]; exact hl
  | lanes f moves => exact hl.of (.refl _) fun hit _ state => (moves hit.1).rowOpen state
  | reset => exact State.SelectionLaw.empty rfl
  | timing i v hm => exact State.SelectionLaw.empty (empty hm (.inl rfl))
  | woken hm => exact State.SelectionLaw.empty (empty hm (.inr rfl))
  | quiesce => exact hl.same (hits_sublist List.filter_sublist) rfl
  | drop b => exact hl.same (hits_dropSelection s b).1 rfl
  | select b line i r place bank state isOpen row unready =>
    obtain ⟨a, c, hq, rfl⟩ := exists_split_of_getElem? place
    have queue : (s.select line a.length).queue = a ++ { r with selected := some line } :: c := by
      rw [State.select_queue, hq, modify_length_append]
    have none : r.selected = none := unready r (by simp [hq]) bank
    have before : hits s.queue = hits a ++ hits c := by rw [hq, hits_append, hits_cons_none none]
    have after : hits (s.select line a.length).queue = hits a ++ (b, r.nextRow) :: hits c := by
      rw [queue, hits_append, hits_cons_some (by rfl), ← bank]
      rfl
    have fresh : ∀ h ∈ hits s.queue, h.1 ≠ b := fun hit hmem hbank => by
      obtain ⟨q, hq, hsel, hqb, _⟩ := mem_hits.mp hmem
      exact hsel (unready q hq (hqb.trans hbank))
    refine ⟨fun hit hmem => ?_, ?_⟩
    · have hmem : hit ∈ hits s.queue ∨ hit = (b, r.nextRow) := by
        rw [after] at hmem
        rw [before]
        simp only [List.mem_append, List.mem_cons] at hmem ⊢
        tauto
      rcases hmem with hmem | rfl
      · exact hl.rowHit hit hmem
      · exact ⟨isOpen, row⟩
    · have one := hl.one
      rw [before, List.map_append] at one
      rw [after, List.map_append, List.map_cons, List.nodup_middle, List.nodup_cons]
      refine ⟨fun hmem => ?_, one⟩
      rw [← List.map_append, ← before] at hmem
      obtain ⟨hit, hmem, hbank⟩ := List.mem_map.mp hmem
      exact fresh hit hmem hbank
  | precharge b =>
    obtain ⟨sub, others⟩ := hits_dropSelection s b
    exact hl.setBank sub rfl others
  | joinRead => exact hl.same (joined rfl) rfl
  | joinWrite => exact hl.same (joined rfl) rfl
  | joinByte => exact hl.same (joined rfl) rfl
  | post c => exact hl.same (joined rfl) rfl
  | stage =>
    refine hl.same (sublist_of_eq (hits_map (fun r => ?_) _)) rfl
    split <;> exact ⟨rfl, rfl, rfl⟩
  | age c =>
    refine hl.same (sublist_of_eq (hits_map (fun r => ?_) _)) rfl
    unfold Record.aged
    split <;> exact ⟨rfl, rfl, rfl⟩
  | withdraw c => exact hl.same (hits_sublist List.filter_sublist) rfl
  | cancel => exact hl.same (hits_sublist List.filter_sublist) rfl
  | grant a a' r b hq free isOpen selected older =>
    have before : hits s.queue = hits a ++ (r.bank, r.nextRow) :: hits b := by rw [hq, hits_append, hits_cons_some selected]
    have after : hits (a' ++ { r with state := .active, selected := none } :: b) = hits a ++ hits b := by
      rw [hits_append, hits_cons_none (by rfl), hits_passedOver older]
    refine hl.setBank ?_ rfl fun hit hmem hbank => ?_
    · rw [before]
      exact (sublist_of_eq after).trans ((List.sublist_cons_self _ _).append_left _)
    · have hmem : hit ∈ hits a ++ hits b := after ▸ hmem
      have one := hl.one
      rw [before, List.map_append, List.map_cons, List.nodup_middle, List.nodup_cons, ← List.map_append] at one
      exact one.1 (List.mem_map.mpr ⟨hit, hmem, hbank⟩)
  | word a r b bad hq active =>
    have none := unselected hq active
    refine hl.same (sublist_of_eq ?_) rfl
    rw [hq, hits_append, hits_append, hits_cons_none none]
    exact congrArg _ (hits_cons_none (r := r.wordDone bad) none b)
  | suspend a r b hq active transferring =>
    have same : hits (a ++ { r with state := .resumable } :: b) = hits s.queue := by
      have none := unselected hq active
      rw [hq, hits_append, hits_append, hits_cons_none none]
      exact congrArg _ (hits_cons_none (r := { r with state := .resumable }) none b)
    exact hl.setBank (sublist_of_eq same) rfl fun hit hmem => notTransferring transferring hit (same ▸ hmem)
  | complete a r b bad hq active transferring =>
    exact hl.setBank (sublist_of_eq (around hq active)) rfl fun hit hmem => notTransferring transferring hit (around hq active ▸ hmem)
  | remove a r b hq active transferring =>
    exact hl.setBank (sublist_of_eq (around hq active)) rfl fun hit hmem => notTransferring transferring hit (around hq active ▸ hmem)
  | _ => exact hl.same (.refl _) rfl

/-! ### All that Safety.lean says (O60) -/

theorem State.safe_iff (s : State) :
    s.safe = true ↔
      s.store.wf = true ∧ s.queueLimits = true ∧ s.weakLimits = true ∧ s.faultLimits = true ∧ s.debtLimits = true ∧
        s.bypassLimits = true ∧ s.channelLimits = true ∧ s.control = true ∧ s.recordsOk = true ∧ s.fifoLaw = true ∧
        s.hostBuffers = true ∧ s.selectionsOk = true := by
  unfold State.safe
  simp only [Bool.and_eq_true, and_assoc]

/-- Every change keeps the part safe. -/
theorem Change.safe {s t : State} (h : Change s t) (hs : s.safe = true) : t.safe = true := by
  rw [State.safe_iff] at hs ⊢
  obtain ⟨store, queue, weak, faults, debts, bypass, channels, control, records, fifos, host, selections⟩ := hs
  have agrees := s.control_iff.mp control
  have laws := s.recordsOk_iff.mp records
  have fifo := s.fifoLaw_iff.mp fifos
  have range (c : Chan) (running : (s.chan c).state = .running) : s.descRangeFails (s.chan c) = false :=
    (fifo c).range (by simp [Channel.busy, running])
  have limits := s.queueLimits_iff.mp queue
  exact ⟨h.wf store, h.queueLimits queue, h.weakLimits weak, h.faultLimits faults, h.debtLimits debts, h.bypassLimits bypass,
    h.channelLimits channels, t.control_iff.mpr (h.agrees agrees), h.recordsOk records range,
    t.fifoLaw_iff.mpr (h.chanLaw agrees laws fifo), t.hostBuffers_iff.mpr (h.hostLaw agrees laws limits (s.hostBuffers_iff.mp host)),
    t.selectionsOk_iff.mpr (h.selectionLaw agrees laws (s.selectionsOk_iff.mp selections))⟩

/-- Settles O60, by the kinds of change that the steps are made of. -/
theorem everyStepKeepsThePartSafe : Obligations.EveryStepKeepsThePartSafe := fun _ _ hs h =>
  step_keeps (P := fun s => s.safe = true) Change.safe hs h

end Sys2Proof.Machine
end

section
/-! The rows that fall due at a store clock, and the idle step: O2. -/

namespace Sys2Proof.Machine

/-! ### Where the rows that fall due come from -/

/-- The places of the part at which rows fall due. -/
inductive DueSite where
  | timer | wakePin | bank (b : Bank) | strobe | chan (c : Chan)

/-- All places, in the order in which the model looks at them. -/
def DueSite.all : List DueSite := .timer :: .wakePin :: (Bank.all.map .bank ++ .strobe :: Chan.all.map .chan)

/-- A row where it is due. -/
def dueIf (due : Bool) (row : Instr) : List Instr := if due then [row] else []

/-- The rows of a place that are due at the store clock just counted. -/
def State.dueAt (s : State) : DueSite → List Instr
  | .timer => dueIf (s.mode.timerRuns && decide (s.ri ≤ s.tickCount)) (.tick ⟨Config.tickOrder s.clocks, .counter⟩)
  | .wakePin => dueIf (s.hwakeHigh && !Config.hwakeLevel s.clocks) .hwakeFallingEdge
  | .bank b =>
    ((s.operation b).toList.flatMap fun o => dueIf (decide (o.1 ≤ (s.bank b).elapsed)) o.2) ++
      dueIf ((s.bank b).state.countsOpen && ((s.bank b).line.timer.map fun n => decide (s.openLim * 16 ≤ n)).getD false)
        (.openLimitExpiry b)
  | .strobe => s.strobe.toList.map s.strobeEnd
  | .chan c =>
    dueIf ((s.chan c).source == .store && decide ((s.chan c).product ≤ (s.chan c).period)) (.periodTick ⟨c, .counter⟩) ++
      dueIf (!(s.chan c).lsyncHigh && Config.lsyncLevel s.clocks c) (.lsyncRisingEdge c) ++
      dueIf ((s.chan c).lreq && ((s.chan c).request == .quiet || s.strobing c)) (.lreqAsserted c)

/-- The rows due, without their places in the free order. -/
theorem State.dueRows_snd (s : State) : s.dueRows.map (·.2) = DueSite.all.flatMap s.dueAt := by
  have whenDue (due : Bool) (n : Nat) (row : Instr) :
      (if due then [(n, row)] else ([] : List (Nat × Instr))).map (·.2) = dueIf due row := by
    cases due <;> rfl
  unfold State.dueRows DueSite.all
  simp only [List.map_append, List.flatMap_cons, List.flatMap_append, List.flatMap_map, List.map_flatMap, whenDue, List.append_assoc,
    State.dueAt]
  refine congrArg₂ _ rfl (congrArg₂ _ rfl (congrArg₂ _ (List.flatMap_congr fun b _ => congrArg₂ _ ?_ rfl) (congrArg₂ _ ?_ rfl)))
  · cases s.operation b with
    | none => rfl
    | some o => exact (whenDue _ _ _).trans (List.append_nil _).symm
  · cases s.strobe <;> rfl

/-! ### No row twice -/

/-- The place that a row comes from, where `b` is the bank of the word operation in progress. -/
def dueSite (b : Bank) : Instr → DueSite
  | .tick _ => .timer
  | .hwakeFallingEdge => .wakePin
  | .activationEnd b' | .prechargeEnd b' | .regularRefreshEnd b' | .spotRefreshEnd b' | .warmupRefreshEnd b'
  | .openLimitExpiry b' => .bank b'
  | .wordTransferEnd | .rmwWordEnd => .bank b
  | .periodTick t => .chan t.chan
  | .lsyncRisingEdge c | .lreqAsserted c => .chan c
  | _ => .strobe

theorem mem_dueIf {due : Bool} {row i : Instr} : i ∈ dueIf due row ↔ due = true ∧ i = row := by
  cases due <;> simp [dueIf]

/-- The record in flight is the oldest ACTIVE one. -/
theorem State.inFlight_find (s : State) : s.inFlight.map Prod.snd = s.queue.find? (·.state == .active) := by
  unfold State.inFlight
  cases h : s.queue.findIdx? (·.state == .active) with
  | none => exact (List.find?_eq_none.mpr fun r hr => by simpa using List.findIdx?_eq_none_iff.mp h r hr).symm
  | some i =>
    obtain ⟨⟨r, hr, hactive⟩, before⟩ := findIdx?_iff_getElem?.mp h
    obtain ⟨hi, rfl⟩ := List.getElem?_eq_some_iff.mp hr
    simp only [hr, Option.map_some]
    refine (List.find?_eq_some_iff_getElem.mpr ⟨by simpa using hactive, i, hi, rfl, fun j hj => ?_⟩).symm
    simpa using before j _ hj (List.getElem?_eq_getElem (hj.trans hi))

/-- Whether the word operation in progress is a byte write's (R35). -/
def State.merging (s : State) : Prop := (s.queue.find? (·.state == .active)).map Record.kind = some .byteWrite

/-- The operation of the bank that transfers, by whether it merges (R16, R35). -/
theorem State.operation_word (s : State) {b : Bank} (h : (s.bank b).state = .transferring) :
    (s.merging → s.operation b = some (s.tWORD + s.tRMW + s.tWORD, .rmwWordEnd)) ∧
      (¬s.merging → s.operation b = some (s.tWORD, .wordTransferEnd)) := by
  unfold State.merging State.operation State.wordDuration
  rw [← s.inFlight_find, h]
  cases s.inFlight with
  | none => simp
  | some ir => by_cases hkind : ir.2.kind = .byteWrite <;> simp [hkind]

/-- A row that ends a bank's operation after a duration: its duration has passed at the next store clock (R16). -/
theorem State.due_of_operation {s : State} {b : Bank} {d : Nat} {i : Instr} (h : s.operation b = some (d, i))
    (hd : d ≤ (s.bank b).elapsed + 1) :
    DueAtTheNextClock s i ∧ ∀ b₀, (s.bank b).state ≠ .transferring ∨ b = b₀ → dueSite b₀ i = .bank b := by
  cases hstate : (s.bank b).state with
  | transferring =>
    obtain ⟨merges, moves⟩ := s.operation_word hstate
    by_cases hm : s.merging
    · rw [merges hm] at h
      cases h
      exact ⟨⟨hm, b, hstate, hd⟩, fun b₀ hb => congrArg _ (hb.resolve_left fun k => k rfl).symm⟩
    · rw [moves hm] at h
      cases h
      exact ⟨⟨hm, b, hstate, hd⟩, fun b₀ hb => congrArg _ (hb.resolve_left fun k => k rfl).symm⟩
  | activating row =>
    simp only [State.operation, hstate] at h
    cases h
    exact ⟨⟨⟨row, hstate⟩, hd⟩, fun _ _ => rfl⟩
  | precharging =>
    simp only [State.operation, hstate] at h
    cases h
    exact ⟨⟨hstate, hd⟩, fun _ _ => rfl⟩
  | refreshing k row =>
    simp only [State.operation, hstate] at h
    cases k with
    | regular =>
      cases h
      exact ⟨⟨⟨row, hstate⟩, hd⟩, fun _ _ => rfl⟩
    | spot =>
      cases h
      exact ⟨⟨⟨row, hstate⟩, hd⟩, fun _ _ => rfl⟩
  | warming =>
    simp only [State.operation, hstate] at h
    cases h
    exact ⟨⟨hstate, hd⟩, fun _ _ => rfl⟩
  | absent | cold | closed | rowOpen | held => simp [State.operation, hstate] at h

/-! ### The rows due at the next store clock -/

/-- What the next store clock changes of a bank for the rows that are due: its clock and timer. -/
theorem State.clocked_bank (s : State) (b : Bank) : s.clocked.bank b = (s.bank b).clocked := PerBank.get_map _ s.banks b

theorem State.clocked_chan (s : State) (c : Chan) :
    s.clocked.chan c = (s.chan c).clocked (Config.lsyncLevel (s.clocks + 1) c) := PerChan.get_map _ s.chans c

theorem State.clocked_operation (s : State) (b : Bank) : s.clocked.operation b = s.operation b := by
  unfold State.operation
  rw [s.clocked_bank]
  rfl

theorem Mode.timerRuns_iff (m : Mode) : m.timerRuns = true ↔ m ≠ .setup ∧ m ≠ .hold := by cases m <;> simp [Mode.timerRuns]

theorem BankState.countsOpen_iff (st : BankState) : st.countsOpen = true ↔ st = .rowOpen ∨ st = .transferring := by
  cases st <;> simp [BankState.countsOpen]

/-- The open limit of a bank is due (R25). -/
theorem State.openLimitDue_iff (s : State) (b : Bank) :
    ((s.clocked.bank b).state.countsOpen &&
        ((s.clocked.bank b).line.timer.map fun n => decide (s.clocked.openLim * 16 ≤ n)).getD false) = true ↔
      DueAtTheNextClock s (.openLimitExpiry b) := by
  rw [s.clocked_bank, Bool.and_eq_true]
  refine (and_congr_left fun _ => BankState.countsOpen_iff (s.bank b).state).trans (and_congr_right fun hopen => ?_)
  simp only [BankLane.clocked, if_pos ((BankState.countsOpen_iff _).mpr hopen)]
  cases (s.bank b).line.timer with
  | none => simp
  | some n => simp; rfl

theorem State.strobing_iff (s : State) (c : Chan) :
    s.strobing c = true ↔ (∃ w, s.strobe = some (.fetch c w)) ∨ ∃ f, s.strobe = some (.deposit c f) := by
  unfold State.strobing
  cases s.strobe with
  | none => simp
  | some st => cases st <;> simp [Strobe.chan]

/-! Each test of the model says that its row is due. -/

theorem State.tickDue_iff (s : State) :
    (s.clocked.mode.timerRuns && decide (s.clocked.ri ≤ s.clocked.tickCount)) = true ↔
      DueAtTheNextClock s (.tick ⟨Config.tickOrder s.clocked.clocks, .counter⟩) := by
  rw [Bool.and_eq_true, decide_eq_true_eq]
  refine (and_congr_right fun hruns => ?_).trans (b := s.mode.timerRuns = true ∧ s.ri ≤ s.tickCount + 1) ?_
  · have counts : s.clocked.tickCount = s.tickCount + 1 := if_pos hruns
    rw [counts]
    rfl
  · rw [Mode.timerRuns_iff]
    exact ⟨fun ⟨⟨hsetup, hhold⟩, hcount⟩ => ⟨rfl, rfl, hsetup, hhold, hcount⟩,
      fun ⟨_, _, hsetup, hhold, hcount⟩ => ⟨⟨hsetup, hhold⟩, hcount⟩⟩

theorem State.wakeDue_iff (s : State) :
    (s.clocked.hwakeHigh && !Config.hwakeLevel s.clocked.clocks) = true ↔ DueAtTheNextClock s .hwakeFallingEdge := by
  show ((s.hwakeHigh || Config.hwakeLevel (s.clocks + 1)) && !Config.hwakeLevel (s.clocks + 1)) = true ↔
    s.hwakeHigh = true ∧ Config.hwakeLevel (s.clocks + 1) = false
  cases Config.hwakeLevel (s.clocks + 1) <;> simp

theorem State.periodDue_iff (s : State) (c : Chan) :
    ((s.clocked.chan c).source == .store && decide ((s.clocked.chan c).product ≤ (s.clocked.chan c).period)) = true ↔
      DueAtTheNextClock s (.periodTick ⟨c, .counter⟩) := by
  rw [s.clocked_chan, Bool.and_eq_true, beq_iff_eq, decide_eq_true_eq]
  refine (and_congr_right fun hsource => ?_).trans
    (b := (s.chan c).source = .store ∧ (s.chan c).prescale * (s.chan c).scale * (s.chan c).bound ≤ (s.chan c).period + 1)
    ⟨fun ⟨hsource, hcount⟩ => ⟨rfl, hsource, hcount⟩, fun ⟨_, hsource, hcount⟩ => ⟨hsource, hcount⟩⟩
  have hsource : (s.chan c).source = .store := hsource
  simp only [Channel.clocked, if_pos hsource]
  rfl

theorem State.lsyncDue_iff (s : State) (c : Chan) :
    (!(s.clocked.chan c).lsyncHigh && Config.lsyncLevel s.clocked.clocks c) = true ↔ DueAtTheNextClock s (.lsyncRisingEdge c) := by
  rw [s.clocked_chan]
  show (!((s.chan c).lsyncHigh && Config.lsyncLevel (s.clocks + 1) c) && Config.lsyncLevel (s.clocks + 1) c) = true ↔
    (s.chan c).lsyncHigh = false ∧ Config.lsyncLevel (s.clocks + 1) c = true
  cases Config.lsyncLevel (s.clocks + 1) c <;> simp

theorem State.lreqDue_iff (s : State) (c : Chan) :
    ((s.clocked.chan c).lreq && ((s.clocked.chan c).request == .quiet || s.clocked.strobing c)) = true ↔
      DueAtTheNextClock s (.lreqAsserted c) := by
  rw [s.clocked_chan, Bool.and_eq_true, Bool.or_eq_true, beq_iff_eq, State.strobing_iff]
  rfl

/-- A row that a place holds after a store clock is due at it, and the place is its own. -/
theorem State.due_of_mem {s : State} {x : DueSite} {i : Instr} (h : i ∈ s.clocked.dueAt x) :
    DueAtTheNextClock s i ∧ ∀ b₀, (∀ b, (s.bank b).state = .transferring → b = b₀) → dueSite b₀ i = x := by
  cases x with
  | timer =>
    obtain ⟨hdue, rfl⟩ := mem_dueIf.mp h
    exact ⟨s.tickDue_iff.mp hdue, fun _ _ => rfl⟩
  | wakePin =>
    obtain ⟨hdue, rfl⟩ := mem_dueIf.mp h
    exact ⟨s.wakeDue_iff.mp hdue, fun _ _ => rfl⟩
  | bank b =>
    rcases List.mem_append.mp h with h | h
    · obtain ⟨⟨d, row⟩, hop, h⟩ := List.mem_flatMap.mp h
      obtain ⟨hdue, rfl⟩ := mem_dueIf.mp h
      rw [Option.mem_toList, s.clocked_operation] at hop
      rw [decide_eq_true_eq, s.clocked_bank] at hdue
      obtain ⟨due, site⟩ := State.due_of_operation hop hdue
      refine ⟨due, fun b₀ only => site b₀ ?_⟩
      exact (em ((s.bank b).state = .transferring)).symm.imp_right (only b)
    · obtain ⟨hdue, rfl⟩ := mem_dueIf.mp h
      exact ⟨(s.openLimitDue_iff b).mp hdue, fun _ _ => rfl⟩
  | strobe =>
    obtain ⟨st, hst, rfl⟩ := List.mem_map.mp h
    have hst : s.strobe = some st := Option.mem_toList.mp hst
    cases st with
    | fetch c w => exact ⟨⟨c, w, hst⟩, fun _ _ => rfl⟩
    | deposit c f => exact ⟨⟨rfl, c, f, hst⟩, fun _ _ => rfl⟩
  | chan c =>
    rcases List.mem_append.mp h with h | h
    · rcases List.mem_append.mp h with h | h
      · obtain ⟨hdue, rfl⟩ := mem_dueIf.mp h
        exact ⟨(s.periodDue_iff c).mp hdue, fun _ _ => rfl⟩
      · obtain ⟨hdue, rfl⟩ := mem_dueIf.mp h
        exact ⟨(s.lsyncDue_iff c).mp hdue, fun _ _ => rfl⟩
    · obtain ⟨hdue, rfl⟩ := mem_dueIf.mp h
      exact ⟨(s.lreqDue_iff c).mp hdue, fun _ _ => rfl⟩

/-- The row of a bank's operation that is over is held at the bank. -/
theorem State.mem_dueAt_of_operation {s : State} {b : Bank} {d : Nat} {i : Instr} (h : s.operation b = some (d, i))
    (hd : d ≤ (s.bank b).elapsed + 1) : i ∈ s.clocked.dueAt (.bank b) := by
  refine List.mem_append_left _ (List.mem_flatMap.mpr ⟨(d, i), ?_, mem_dueIf.mpr ⟨decide_eq_true ?_, rfl⟩⟩)
  · rw [Option.mem_toList, s.clocked_operation]; exact h
  · rw [s.clocked_bank]; exact hd

/-- Every row that is due at the next store clock is held at a place. -/
theorem State.mem_of_due {s : State} {i : Instr} (h : DueAtTheNextClock s i) : ∃ x, i ∈ s.clocked.dueAt x := by
  have held {due : Bool} {row : Instr} {l : List Instr} (hdue : due = true) (hl : dueIf due row ⊆ l) : row ∈ l :=
    hl (mem_dueIf.mpr ⟨hdue, rfl⟩)
  cases i with
  | activationEnd b =>
    obtain ⟨⟨row, hstate⟩, hd⟩ := h
    exact ⟨_, State.mem_dueAt_of_operation (b := b) (by rw [State.operation, hstate]) hd⟩
  | prechargeEnd b => exact ⟨_, State.mem_dueAt_of_operation (b := b) (by rw [State.operation, h.1]) h.2⟩
  | regularRefreshEnd b =>
    obtain ⟨⟨row, hstate⟩, hd⟩ := h
    exact ⟨_, State.mem_dueAt_of_operation (b := b) (by rw [State.operation, hstate]) hd⟩
  | spotRefreshEnd b =>
    obtain ⟨⟨row, hstate⟩, hd⟩ := h
    exact ⟨_, State.mem_dueAt_of_operation (b := b) (by rw [State.operation, hstate]) hd⟩
  | warmupRefreshEnd b => exact ⟨_, State.mem_dueAt_of_operation (b := b) (by rw [State.operation, h.1]) h.2⟩
  | wordTransferEnd =>
    obtain ⟨moves, b, hstate, hd⟩ := h
    exact ⟨_, State.mem_dueAt_of_operation ((s.operation_word hstate).2 moves) hd⟩
  | rmwWordEnd =>
    obtain ⟨merges, b, hstate, hd⟩ := h
    exact ⟨_, State.mem_dueAt_of_operation ((s.operation_word hstate).1 merges) hd⟩
  | openLimitExpiry b => exact ⟨.bank b, held ((s.openLimitDue_iff b).mpr h) (List.subset_append_right ..)⟩
  | tick t =>
    obtain ⟨order, origin⟩ := t
    obtain ⟨rfl, rfl, _⟩ := id h
    exact ⟨.timer, held (s.tickDue_iff.mpr h) (List.Subset.refl _)⟩
  | periodTick t =>
    obtain ⟨c, origin⟩ := t
    obtain ⟨rfl, _⟩ := id h
    exact ⟨.chan c, held ((s.periodDue_iff c).mpr h) fun _ hr => List.mem_append_left _ (List.mem_append_left _ hr)⟩
  | lsyncRisingEdge c =>
    exact ⟨.chan c, held ((s.lsyncDue_iff c).mpr h) fun _ hr => List.mem_append_left _ (List.mem_append_right _ hr)⟩
  | lreqAsserted c => exact ⟨.chan c, held ((s.lreqDue_iff c).mpr h) (List.subset_append_right ..)⟩
  | hwakeFallingEdge => exact ⟨.wakePin, held (s.wakeDue_iff.mpr h) (List.Subset.refl _)⟩
  | fetchStrobeEnd =>
    obtain ⟨c, w, hst⟩ := h
    exact ⟨.strobe, List.mem_map.mpr ⟨.fetch c w, Option.mem_toList.mpr hst, rfl⟩⟩
  | depositStrobeEnd ld =>
    obtain ⟨rfl, c, f, hst⟩ := h
    exact ⟨.strobe, List.mem_map.mpr ⟨.deposit c f, Option.mem_toList.mpr hst, rfl⟩⟩
  | _ => exact h.elim

/-- No operation ends with an open limit. -/
theorem State.operation_ne_expiry {s : State} {b b' : Bank} {d : Nat} : s.operation b ≠ some (d, .openLimitExpiry b') := by
  intro h
  cases hstate : (s.bank b).state with
  | transferring =>
    obtain ⟨merges, moves⟩ := s.operation_word hstate
    by_cases hm : s.merging
    · rw [merges hm] at h; cases h
    · rw [moves hm] at h; cases h
  | refreshing k row => cases k <;> simp [State.operation, hstate] at h
  | _ => simp [State.operation, hstate] at h

/-- No place holds a row twice. -/
theorem State.dueAt_nodup (s : State) (x : DueSite) : (s.dueAt x).Nodup := by
  have single (due : Bool) (row : Instr) : (dueIf due row).Nodup := by cases due <;> simp [dueIf]
  have apart {due due' : Bool} {row row' : Instr} (h : row ≠ row') : (dueIf due row).Disjoint (dueIf due' row') := fun i hi hi' =>
    h ((mem_dueIf.mp hi).2.symm.trans (mem_dueIf.mp hi').2)
  cases x with
  | timer => exact single _ _
  | wakePin => exact single _ _
  | bank b =>
    unfold State.dueAt
    refine List.nodup_append'.mpr ⟨?_, single _ _, ?_⟩
    · cases s.operation b with
      | none => exact List.nodup_nil
      | some o =>
        simp only [Option.toList_some, List.flatMap_cons, List.flatMap_nil, List.append_nil]
        exact single _ _
    · intro i hi hi'
      obtain ⟨⟨d, row⟩, hop, hi⟩ := List.mem_flatMap.mp hi
      obtain ⟨_, rfl⟩ := mem_dueIf.mp hi
      obtain ⟨_, rfl⟩ := mem_dueIf.mp hi'
      exact State.operation_ne_expiry (Option.mem_toList.mp hop)
  | strobe => cases hst : s.strobe <;> simp [State.dueAt, hst]
  | chan c =>
    refine List.nodup_append'.mpr ⟨List.nodup_append'.mpr ⟨single _ _, single _ _, apart nofun⟩, single _ _, ?_⟩
    rw [List.disjoint_append_left]
    exact ⟨apart nofun, apart nofun⟩

theorem DueSite.mem_all (x : DueSite) : x ∈ DueSite.all := by
  cases x with
  | bank b => cases b <;> simp [DueSite.all, Bank.all]
  | chan c => cases c <;> simp [DueSite.all, Chan.all]
  | _ => simp [DueSite.all]

theorem DueSite.all_nodup : DueSite.all.Nodup := by simp [DueSite.all, Bank.all, Chan.all]

theorem State.mem_dueRows (s : State) (i : Instr) : i ∈ s.clocked.dueRows.map (·.2) ↔ DueAtTheNextClock s i := by
  rw [State.dueRows_snd, List.mem_flatMap]
  refine ⟨fun ⟨x, _, hx⟩ => (State.due_of_mem hx).1, fun hi => ?_⟩
  obtain ⟨x, hx⟩ := State.mem_of_due hi
  exact ⟨x, x.mem_all, hx⟩

/-- With one bank at most TRANSFERRING no row falls due twice. -/
theorem State.dueRows_nodup {s : State} (one : ∀ b b', (s.bank b).state = .transferring → (s.bank b').state = .transferring → b = b') :
    (s.clocked.dueRows.map (·.2)).Nodup := by
  obtain ⟨b₀, only⟩ : ∃ b₀, ∀ b, (s.bank b).state = .transferring → b = b₀ := by
    by_cases hany : ∃ b, (s.bank b).state = .transferring
    · obtain ⟨b₀, h₀⟩ := hany
      exact ⟨b₀, fun b hb => one b b₀ hb h₀⟩
    · exact ⟨.b0, fun b hb => absurd ⟨b, hb⟩ hany⟩
  rw [State.dueRows_snd, List.nodup_flatMap]
  refine ⟨fun x _ => s.clocked.dueAt_nodup x, DueSite.all_nodup.imp fun hne i hi hi' => hne ?_⟩
  exact ((State.due_of_mem hi).2 b₀ only).symm.trans ((State.due_of_mem hi').2 b₀ only)

/-! ### The rows of a store clock -/

theorem insertDue_perm (r : Nat × Instr) (rows : List (Nat × Instr)) : (insertDue r rows).Perm (r :: rows) := by
  induction rows with
  | nil => rfl
  | cons q rest ih =>
    unfold insertDue
    split
    · rfl
    · exact (ih.cons q).trans (.swap r q rest)

theorem sortDue_perm (rows : List (Nat × Instr)) : (sortDue rows).Perm rows := by
  have fold (acc rows : List (Nat × Instr)) : (rows.foldl (fun acc r => insertDue r acc) acc).Perm (acc ++ rows) := by
    induction rows generalizing acc with
    | nil => rw [List.append_nil]; rfl
    | cons r rest ih => exact (ih _).trans (((insertDue_perm r acc).append_right rest).trans List.perm_middle.symm)
  exact fold [] rows

/-- The arbiters' decisions stand among the rows where two or more are due (entry 31). -/
theorem State.dueWithArbiters_snd (s : State) :
    s.dueWithArbiters.map (·.2) =
      if 2 ≤ s.dueRows.length then s.dueRows.map (·.2) ++ [.dataPathGrant, .laneGrant] else s.dueRows.map (·.2) := by
  unfold State.dueWithArbiters
  split
  · next h => rw [h]; rfl
  · next r h => rw [h]; rfl
  · next many one =>
    rw [if_pos, List.map_append]
    · rfl
    · match hrows : s.dueRows with
      | [] => exact absurd hrows many
      | [r] => exact absurd hrows (one r)
      | r :: r' :: rest => simp

/-- The rows that become pending at a store clock. -/
def State.nextRows (s : State) : List Instr := (sortDue s.clocked.dueWithArbiters).map (·.2)

theorem State.nextRows_perm (s : State) : s.nextRows.Perm (s.clocked.dueWithArbiters.map (·.2)) := (sortDue_perm _).map _

theorem State.mem_nextRows {s : State} {i : Instr} (data : i ≠ .dataPathGrant) (lane : i ≠ .laneGrant) :
    i ∈ s.nextRows ↔ DueAtTheNextClock s i := by
  rw [s.nextRows_perm.mem_iff, State.dueWithArbiters_snd, ← s.mem_dueRows]
  split
  · simp [data, lane]
  · rfl

theorem two_le_length_iff {l : List Instr} (h : l.Nodup) : 2 ≤ l.length ↔ ∃ i j, i ≠ j ∧ i ∈ l ∧ j ∈ l := by
  rw [← List.toFinset_card_of_nodup h]
  refine Finset.one_lt_card_iff.trans (exists_congr fun i => exists_congr fun j => ?_)
  rw [List.mem_toFinset, List.mem_toFinset]
  tauto

section
variable {s : State} (one : ∀ b b', (s.bank b).state = .transferring → (s.bank b').state = .transferring → b = b')
include one

theorem State.nextRows_nodup : s.nextRows.Nodup := by
  have due := State.dueRows_nodup one
  rw [s.nextRows_perm.nodup_iff, State.dueWithArbiters_snd]
  split
  · refine List.nodup_append'.mpr ⟨due, by simp, fun i hi hi' => ?_⟩
    have hdue := (s.mem_dueRows i).mp hi
    simp only [List.mem_cons, List.not_mem_nil, or_false] at hi'
    rcases hi' with rfl | rfl <;> exact hdue
  · exact due

/-- A decision of an arbiter stands among the rows exactly where two or more are due. -/
theorem State.grant_mem_nextRows {i : Instr} (h : i = .dataPathGrant ∨ i = .laneGrant) :
    i ∈ s.nextRows ↔ ∃ j k, j ≠ k ∧ DueAtTheNextClock s j ∧ DueAtTheNextClock s k := by
  have several := two_le_length_iff (State.dueRows_nodup one)
  rw [List.length_map] at several
  simp only [s.mem_dueRows] at several
  have notDue : ¬DueAtTheNextClock s i := by rcases h with rfl | rfl <;> exact id
  rw [← several, s.nextRows_perm.mem_iff, State.dueWithArbiters_snd]
  split
  · next hlen =>
    refine iff_of_true (List.mem_append_right _ ?_) hlen
    rcases h with rfl | rfl <;> simp
  · next hlen => exact iff_of_false (fun hi => notDue ((s.mem_dueRows i).mp hi)) hlen

end

/-! ### The arbiters -/

/-- The data-path arbiter has a decision to make where the path is free and a bank is READY (R86). -/
theorem State.canGrant_iff (s : State) : s.canGrant = true ↔ s.pathFree = true ∧ ∃ b, s.ready b = true := by
  unfold State.canGrant
  rw [Bool.and_eq_true, Option.isSome_iff_ne_none, ne_eq, s.grantPlace_none_iff]
  refine and_congr_right fun _ => ?_
  simp only [not_forall, not_not]
  constructor
  · rintro ⟨i, r, hplace, hsel, hopen⟩
    exact ⟨r.bank, (s.ready_iff _).mpr ⟨hopen, r, List.mem_of_getElem? hplace, rfl, hsel⟩⟩
  · rintro ⟨b, hready⟩
    obtain ⟨hopen, r, hr, rfl, hsel⟩ := (s.ready_iff b).mp hready
    obtain ⟨i, hi⟩ := List.getElem?_of_mem hr
    exact ⟨i, r, hi, hsel, hopen⟩

/-- The lane arbiter has a decision to make where the bus is free and a channel can be served (R146). -/
theorem State.canServe_iff (s : State) : s.canServe = true ↔ s.strobe = none ∧ ∃ c, (s.chan c).CanBeServed := by
  unfold State.canServe State.laneChoice
  rw [Bool.and_eq_true, Option.isNone_iff_eq_none, List.find?_isSome]
  refine and_congr_right fun _ => ⟨fun ⟨c, _, hc⟩ => ⟨c, (s.chan c).servable_iff.mp hc⟩,
    fun ⟨c, hc⟩ => ⟨c, ?_, (s.chan c).servable_iff.mpr hc⟩⟩
  cases s.lanePtr <;> cases c <;> simp [Chan.next]

/-- A store clock, with the counters as the statement writes them. -/
theorem State.storeClock_eq {s : State} (h : s.pending = []) :
    s.storeClock = { s with
      clocks := s.clocks + 1
      hwakeHigh := s.hwakeHigh || Config.hwakeLevel (s.clocks + 1)
      tickCount := if s.mode = .setup ∨ s.mode = .hold then s.tickCount else s.tickCount + 1
      banks := s.banks.map fun _ l => { l with
        elapsed := l.elapsed + 1
        line := { l.line with
          timer := if l.state = .rowOpen ∨ l.state = .transferring then l.line.timer.map (· + 1) else l.line.timer } }
      chans := s.chans.map fun c x => { x with
        period := if x.source = .store then x.period + 1 else x.period
        lsyncHigh := x.lsyncHigh && Config.lsyncLevel (s.clocks + 1) c }
      pending := s.nextRows } := by
  have ticks : (if s.mode.timerRuns then s.tickCount + 1 else s.tickCount) =
      if s.mode = .setup ∨ s.mode = .hold then s.tickCount else s.tickCount + 1 := by
    cases s.mode <;> rfl
  have lanes : (s.banks.map fun _ l => l.clocked) = s.banks.map fun _ l => { l with
        elapsed := l.elapsed + 1
        line := { l.line with
          timer := if l.state = .rowOpen ∨ l.state = .transferring then l.line.timer.map (· + 1) else l.line.timer } } := by
    refine PerBank.ext_get fun b => ?_
    rw [PerBank.get_map, PerBank.get_map, BankLane.clocked]
    simp only [BankState.countsOpen_iff]
  have rows : s.clocked.pending ++ (sortDue s.clocked.dueWithArbiters).map (·.2) = s.nextRows := by
    show s.pending ++ s.nextRows = s.nextRows
    rw [h, List.nil_append]
  rw [← ticks, ← lanes, ← rows]
  rfl

/-- Settles O2: the three branches of an idle step, and of a store clock the rows due at it, each once. -/
theorem idleStepActsOnItsOwn : Obligations.IdleStepActsOnItsOwn := by
  intro s hp
  have idle : step s = .next s.idle := by rw [step, hp]
  refine ⟨fun hr => ?_, fun hr => ⟨fun free ready => ?_, fun noGrant => ⟨fun quiet served => ?_, fun noServe => ⟨s.nextRows, ?_⟩⟩⟩⟩
  · rw [idle, State.idle, if_pos hr]
  · rw [idle, State.idle, if_neg (by simp [hr]), if_pos (s.canGrant_iff.mpr ⟨free, ready⟩), hp, List.nil_append]
  all_goals
    have cannotGrant : ¬s.canGrant = true := by
      rw [s.canGrant_iff]
      rintro ⟨free, b, ready⟩
      rcases noGrant with taken | none
      · rw [free] at taken; cases taken
      · rw [none b] at ready; cases ready
  · rw [idle, State.idle, if_neg (by simp [hr]), if_neg cannotGrant, if_pos (s.canServe_iff.mpr ⟨quiet, served⟩), hp, List.nil_append]
  · have cannotServe : ¬s.canServe = true := by
      rw [s.canServe_iff]
      rintro ⟨quiet, c, served⟩
      exact noServe.elim (· quiet) (· c served)
    refine ⟨?_, fun i data lane => State.mem_nextRows data lane, fun one => ⟨State.nextRows_nodup one, ?_, ?_⟩⟩
    · rw [idle, State.idle, if_neg (by simp [hr]), if_neg cannotGrant, if_neg cannotServe, State.storeClock_eq hp]
    · exact State.grant_mem_nextRows one (.inl rfl)
    · exact State.grant_mem_nextRows one (.inr rfl)

end Sys2Proof.Machine
end

section
/-! The settle count in WARMING and WAKING: O38. -/

namespace Sys2Proof.Machine

/-! ### The settle count (R15, R171, R181) -/

/-- At SETTLE the settle count stays. -/
theorem State.countSettle_full {s : State} (h : s.settleLimit ≤ s.settle) : s.countSettle = s := if_neg (Nat.not_lt.mpr h)

/-- Below SETTLE the settle count rises. -/
theorem State.countSettle_below {s : State} (hm : s.mode = .warming ∨ s.mode = .waking) (h : s.settle + 1 < s.settleLimit) :
    s.countSettle = { s with settle := s.settle + 1 } := by
  rw [State.countSettle, if_pos (Nat.lt_of_succ_lt h)]
  rcases hm with hm | hm <;> simp [hm, Nat.ne_of_lt h]

/-- The count that reaches SETTLE starts the warm-up in WARMING. -/
theorem State.countSettle_warming {s : State} (hm : s.mode = .warming) (h : s.settle + 1 = s.settleLimit) :
    s.countSettle = s.startWarmup := by
  rw [State.countSettle, if_pos (Nat.lt_of_succ_le (Nat.le_of_eq h))]
  simp [hm, h]

/-- The count that reaches SETTLE ends the wake in WAKING. -/
theorem State.countSettle_waking {s : State} (hm : s.mode = .waking) (h : s.settle + 1 = s.settleLimit) :
    s.countSettle = s.finishWake := by
  rw [State.countSettle, if_pos (Nat.lt_of_succ_le (Nat.le_of_eq h))]
  simp [hm, h]

/-- A tick in WARMING or WAKING is counted in the settle count, then the channels take it and the banks make their choices (R39). -/
theorem execTick_settle {s : State} {order : ChanOrder} {origin : TickOrigin} (hr : s.inReset = false)
    (hm : s.mode = .warming ∨ s.mode = .waking) {u : State} (hu : State.countSettle { s with tickCount := 0 } = u)
    (occurs : origin = .sender ∨ s.ri ≤ s.tickCount) :
    exec (.tick ⟨order, origin⟩) s = .next (order.toList.foldl State.refreshEvent u).reconsiderAll := by
  have taken : (s.mode.timerRuns && tickOccurs origin s.ri s.tickCount) = true := by
    rw [Bool.and_eq_true]
    refine ⟨by rcases hm with hm | hm <;> rw [hm] <;> rfl, ?_⟩
    cases origin with
    | sender => rfl
    | counter => exact decide_eq_true (occurs.resolve_left nofun)
  show Host.Outcome.next (s.outOfReset _) = _
  rw [State.outOfReset_of_not hr, if_pos taken]
  dsimp only
  rw [if_pos hm, hu]

/-- Settles O38: the two rows with their guards, then TICK below SETTLE and at it. -/
theorem ticksCountTheSettle : Obligations.TicksCountTheSettle := by
  intro order origin s hr warmed woken leads
  refine ⟨fun hm => ⟨fun full occurs => ?_, fun below occurs => ?_⟩, fun hm => ⟨fun last occurs => ?_, ?_⟩,
    fun hm => ⟨fun last occurs => ?_, ?_⟩, fun hm => ?_, fun hm => ?_⟩
  · exact execTick_settle hr hm (State.countSettle_full full) occurs
  · exact execTick_settle hr hm (State.countSettle_below hm below) occurs
  · refine execTick_settle hr (.inl hm) ?_ occurs
    refine (State.countSettle_warming (s := { s with tickCount := 0 }) hm last).trans ?_
    rw [last]
    rfl
  · show Host.Outcome.next (s.outOfReset _) = _
    rw [State.outOfReset_of_not hr, if_pos hm]
    rfl
  · refine execTick_settle hr (.inr hm) ?_ occurs
    refine (State.countSettle_waking (s := { s with tickCount := 0 }) hm last).trans ?_
    rw [last]
    rfl
  · refine ⟨?_, State.reconsiderAll_choicesOf _⟩
    show Host.Outcome.next (s.outOfReset _) = _
    rw [State.outOfReset_of_not hr, if_pos hm]
    rfl
  · show Host.Outcome.next (s.outOfReset _) = _
    rw [State.outOfReset_of_not hr, if_neg hm]
  · show Host.Outcome.next (s.outOfReset _) = _
    rw [State.outOfReset_of_not hr, if_neg hm]

end Sys2Proof.Machine
end

section
/-! The choice of an OPEN bank: O51. -/

namespace Sys2Proof.Machine

/-! ### The start of a precharge and the drop of a selection (R18, R85) -/

theorem State.startPrecharge_eq (s : State) (b : Bank) :
    s.startPrecharge b = { s with
      banks := s.banks.set b { s.bank b with state := .precharging, elapsed := 0 }
      queue := s.queue.map fun r => if r.bank = b then { r with selected := none } else r } := rfl

theorem State.dropSelection_idem (s : State) (b : Bank) : (s.dropSelection b).dropSelection b = s.dropSelection b := by
  refine State.dropSelection_id _ b ?_
  rintro ⟨r, hr, hb, hsel⟩
  obtain ⟨q, _, rfl⟩ := List.mem_map.mp hr
  by_cases hq : q.bank = b
  · rw [if_pos hq] at hsel; cases hsel
  · rw [if_neg hq] at hb; exact hq hb

theorem State.startPrecharge_dropSelection (s : State) (b : Bank) : (s.dropSelection b).startPrecharge b = s.startPrecharge b := by
  rw [State.startPrecharge, s.dropSelection_idem b, s.bank_dropSelection, ← State.startPrecharge]

/-- A bank whose row is open and that has no selection is in the choice (R80). -/
theorem State.choose_open {s : State} {b : Bank} (hm : s.mode = .run ∨ s.mode = .quiescing ∨ s.mode = .holdEntry)
    (hopen : (s.bank b).state = .rowOpen) (unready : s.ready b = false) : s.choose b = s.chooseOpen b := by
  have member : s.inChoice b = true := by
    unfold State.inChoice
    rcases hm with hm | hm | hm <;> simp [hm, hopen, unready]
  rw [State.choose, if_pos member, if_pos hopen]

/-- A READY bank is not in the choice. -/
theorem State.choose_ready {s : State} {b : Bank} (hready : s.ready b = true) : s.choose b = s := by
  rw [State.choose, if_neg (by simp [State.inChoice, hready])]

/-- A bank that looks again without a cause to stop makes its choice alone. -/
theorem State.reconsider_of_not {s : State} {b : Bank} (h : ¬(s.ready b = true ∧ s.MustStop b)) : s.reconsider b = s.choose b := by
  rw [State.reconsider, if_neg]
  rwa [Bool.and_eq_true, s.stopCause_iff]

/-- An OPEN bank with a cause to stop closes its row and drops its selection (R81, R85). -/
theorem State.reconsider_mustStop {s : State} {b : Bank} (hm : s.mode = .run ∨ s.mode = .quiescing ∨ s.mode = .holdEntry)
    (hopen : (s.bank b).state = .rowOpen) (hstop : s.MustStop b) : s.reconsider b = s.startPrecharge b := by
  have cause := (s.stopCause_iff b).mpr hstop
  by_cases hready : s.ready b = true
  · have dropped : (s.dropSelection b).stopCause b = true := cause
    rw [State.reconsider, if_pos (by rw [hready, cause]; rfl),
      State.choose_open (s := s.dropSelection b) hm hopen (s.dropSelection_ready b), State.chooseOpen, if_pos dropped,
      State.startPrecharge_dropSelection]
  · rw [State.reconsider_of_not fun h => hready h.1, State.choose_open hm hopen (Bool.eq_false_iff.mpr hready), State.chooseOpen,
      if_pos cause]

/-- A bank that is neither OPEN nor CLOSED has no choice to make (R80). -/
theorem State.reconsider_of_state {s : State} {b : Bank} (hopen : (s.bank b).state ≠ .rowOpen) (hclosed : (s.bank b).state ≠ .closed) :
    s.reconsider b = s := by
  rw [State.reconsider_of_not fun h => hopen ((s.ready_iff b).mp h.1).1, State.choose, if_neg]
  simp [State.inChoice, hopen, hclosed]

section
variable {s : State} {b : Bank} (hm : s.mode = .run ∨ s.mode = .quiescing ∨ s.mode = .holdEntry)
  (hopen : (s.bank b).state = .rowOpen) (unselected : ¬∃ r ∈ s.queue, r.bank = b ∧ r.selected.isSome = true)
include hm hopen unselected

/-- An OPEN bank without a selection makes the choice of an OPEN bank (R80). -/
theorem State.reconsider_unready : s.reconsider b = s.chooseOpen b := by
  have unready : s.ready b = false := Bool.eq_false_iff.mpr fun h => unselected ((s.ready_iff b).mp h).2
  rw [State.reconsider_of_not fun h => by rw [unready] at h; exact absurd h.1 nofun, State.choose_open hm hopen unready]

/-- The candidate of an OPEN bank is selected where it lies in the open row, and closes the row elsewhere (R83). -/
theorem State.reconsider_candidate (hstop : ¬s.MustStop b) {line : ChoiceLine} {i : Nat} {r : Record}
    (hc : s.CandidateBy b line i) (hi : s.queue[i]? = some r) :
    (s.InOpenRow b r → s.reconsider b = { s with queue := s.queue.set i { r with selected := some line } }) ∧
      (¬s.InOpenRow b r → s.reconsider b = s.startPrecharge b) := by
  have row : s.queue[i]?.map Record.nextRow = (s.bank b).line.openRow ↔ s.InOpenRow b r := by
    rw [hi]
    exact ⟨fun h => ⟨hopen, h.symm⟩, fun h => h.2.symm⟩
  rw [State.reconsider_unready hm hopen unselected, State.chooseOpen, if_neg (mt (s.stopCause_iff b).mp hstop),
    (s.candidate_iff b line i).mpr hc]
  refine ⟨fun hrow => ?_, fun hrow => if_neg (mt row.mp hrow)⟩
  have selected : s.queue.modify i (fun r => { r with selected := some line }) = s.queue.set i { r with selected := some line } := by
    obtain ⟨a, c, hq, rfl⟩ := exists_split_of_getElem? hi
    rw [hq, modify_length_append]
    simp
  exact (if_pos (row.mpr hrow)).trans (congrArg (fun q => { s with queue := q }) selected)

end

/-- Settles O51: the branches of the choice of an OPEN bank, in their order. -/
theorem openBanksChoose : Obligations.OpenBanksChoose := by
  intro s b hm l closes dropped selects
  have closed (none : ¬selects) : s.startPrecharge b = closes := by
    rw [State.startPrecharge, State.dropSelection_id s b none]
    rfl
  refine ⟨fun hopen => ⟨State.reconsider_mustStop hm hopen, fun hstop hsel => ?_,
    fun hstop none => ⟨fun line i r hc hi => ?_, fun hnone => ?_⟩⟩,
    fun hclosed => ?_, State.reconsider_of_state, fun u => ⟨u.reconsider_choiceOf b, u.reconsiderAll_choicesOf, rfl⟩⟩
  · rw [State.reconsider_of_not fun h => hstop h.2, State.choose_ready ((s.ready_iff b).mpr ⟨hopen, hsel⟩)]
  · rw [← closed none]
    exact State.reconsider_candidate hm hopen none hstop hc hi
  · rw [State.reconsider_unready hm hopen none, State.chooseOpen, if_neg (mt (s.stopCause_iff b).mp hstop),
      (s.candidate_none_iff b).mpr hnone, ← closed none]
    exact ⟨fun hpage => if_pos hpage, fun hpage => if_neg (by rw [hpage]; nofun)⟩
  · refine State.reconsider_of_not fun h => ?_
    rw [((s.ready_iff b).mp h.1).1] at hclosed
    cases hclosed

end Sys2Proof.Machine
end

section
/-! The ends of open limits, activations, precharges and warm-up refreshes: O40, O41 and O43. -/

namespace Sys2Proof.Machine

theorem PerBank.set_set {α : Type} (p : PerBank α) (b : Bank) (x y : α) : (p.set b x).set b y = p.set b y := by
  refine PerBank.ext_get fun b' => ?_
  by_cases hb : b' = b
  · rw [hb, PerBank.get_set_same, PerBank.get_set_same]
  · rw [PerBank.get_set_other _ _ hb, PerBank.get_set_other _ _ hb, PerBank.get_set_other _ _ hb]

/-- A bank that looks again outside the modes of the choice drops a selection that has a cause to stop (R80, R85). -/
theorem State.reconsider_outside {s : State} {b : Bank} (hm : ¬(s.mode = .run ∨ s.mode = .quiescing ∨ s.mode = .holdEntry))
    (hopen : (s.bank b).state = .rowOpen) (hstop : s.MustStop b) : s.reconsider b = s.dropSelection b := by
  have stays {u : State} (hu : u.mode = s.mode) : u.choose b = u := by
    rw [State.choose, if_neg]
    rw [← hu] at hm
    simpa [State.inChoice, or_assoc] using fun h => absurd h hm
  by_cases hready : s.ready b = true
  · rw [State.reconsider, if_pos (by rw [hready, (s.stopCause_iff b).mpr hstop]; rfl), stays (u := s.dropSelection b) rfl]
  · rw [State.reconsider_of_not fun h => hready h.1, stays rfl, State.dropSelection_id s b]
    exact fun hsel => hready ((s.ready_iff b).mpr ⟨hopen, hsel⟩)

/-- A state with the open limit of a bank expired (R25). -/
def State.withExpired (s : State) (b : Bank) : State :=
  s.setBank b { s.bank b with line := { (s.bank b).line with expired := true, timer := none } }

/-- Settles O40: the banks with a timer counting, by their state, and the others. -/
theorem openLimitsExpire : Obligations.OpenLimitsExpire := by
  intro b s hr l line dropped
  have expires (hl : (l.state = .rowOpen ∨ l.state = .transferring) ∧ l.line.timer.isSome = true) :
      exec (.openLimitExpiry b) s = .next ((s.withExpired b).reconsider b) := by
    show Host.Outcome.next (s.outOfReset _) = _
    rw [State.outOfReset_of_not hr, if_pos hl]
    rfl
  have lane : (s.withExpired b).bank b = { l with line := line } := s.bank_setBank_same b _
  have cause : (s.withExpired b).MustStop b := .inr (.inl (by rw [lane]))
  refine ⟨fun timer => ⟨fun hstate => ?_, fun hopen hm => ?_, fun hopen h1 h2 h3 => ?_⟩, fun idle => ?_⟩
  · have transferring : ((s.withExpired b).bank b).state = .transferring := by rw [lane]; exact hstate
    rw [expires ⟨.inr hstate, timer⟩, State.reconsider_of_state (by rw [transferring]; nofun) (by rw [transferring]; nofun)]
    rfl
  · rw [expires ⟨.inl hopen, timer⟩, State.reconsider_mustStop (s := s.withExpired b) hm (by rw [lane]; exact hopen) cause,
      State.startPrecharge_eq, lane]
    show Host.Outcome.next ({ s with banks := (s.banks.set b _).set b _, queue := dropped } : State) = _
    rw [PerBank.set_set]
  · rw [expires ⟨.inl hopen, timer⟩,
      State.reconsider_outside (s := s.withExpired b) (fun hm => hm.elim h1 (·.elim h2 h3)) (by rw [lane]; exact hopen) cause]
    rfl
  · show Host.Outcome.next (s.outOfReset _) = _
    rw [State.outOfReset_of_not hr, if_neg]
    rintro ⟨hstate, timer⟩
    rcases idle with none | ⟨hopen, htransferring⟩
    · rw [none] at timer; cases timer
    · exact hstate.elim hopen htransferring

/-! ### Activations and precharges (R17, R18, R176) -/

/-- After an operation of a bank in QUIESCING the mode is RUN exactly where the quiesce is over (R176). -/
theorem State.afterOperation_mode {u : State} (b : Bank) (h : u.mode = .quiescing) :
    (u.afterOperation b).mode = .run ↔ u.QuiesceOver := by
  rw [State.afterOperation, State.reconsider_mode _ _ (u.quiesceTest_ne h)]
  exact u.quiesceTest_mode h

/-- What an end of an operation is followed by: the row's effect, the bank's choice, and the mode (R29, R80, R176). -/
theorem State.operationEnds {s u : State} {b : Bank} {i : Instr} (h : exec i s = .next (u.afterOperation b)) (hm : u.mode = s.mode) :
    exec i s = .next (u.quiesceTest.reconsider b) ∧ u.ChoiceOf (u.quiesceTest.reconsider b) b ∧
      (s.mode = .quiescing → ((u.quiesceTest.reconsider b).mode = .run ↔ u.QuiesceOver)) :=
  ⟨h, u.afterOperation_choiceOf b, fun hq => State.afterOperation_mode b (hm.trans hq)⟩

theorem State.quiesceTest_over {s : State} (hm : s.mode = .quiescing) (h : s.QuiesceOver) :
    s.quiesceTest = { s with
      mode := .run, prechargeAll := false, host := ⟨[], none, [], none, none, false⟩, events := s.events.raise .modeDone } := by
  rw [State.quiesceTest, if_pos ⟨hm, s.quiesceOver_iff.mpr h⟩]
  rfl

theorem State.quiesceTest_not {s : State} (h : s.mode ≠ .quiescing ∨ ¬s.QuiesceOver) : s.quiesceTest = s := by
  rw [State.quiesceTest, if_neg]
  exact fun ⟨hm, hover⟩ => h.elim (· hm) (· (s.quiesceOver_iff.mp hover))

/-- Settles O41: each operation that ends, then the test of R176. -/
theorem activationsOpenAndPrechargesClose : Obligations.ActivationsOpenAndPrechargesClose := by
  intro b s hr l
  refine ⟨fun row hstate => ?_, fun hstate => ?_, State.quiesceTest_over, State.quiesceTest_not, fun hstate => ?_, fun hstate => ?_⟩
  · refine State.operationEnds ?_ rfl
    show Host.Outcome.next (s.outOfReset _) = _
    rw [State.outOfReset_of_not hr]
    dsimp only
    rw [hstate]
    rfl
  · intro emptied u
    have closes : exec (.prechargeEnd b) s = .next (u.afterOperation b) := by
      show Host.Outcome.next (s.outOfReset _) = _
      rw [State.outOfReset_of_not hr, if_pos hstate]
      rfl
    refine ⟨fun hm => ?_, State.operationEnds closes rfl⟩
    have closed : (u.bank b).state = .closed := congrArg BankLane.state (s.bank_setBank_same b _)
    rw [closes, State.afterOperation, State.quiesceTest_not (s := u) (.inl hm), State.reconsider_of_not]
    intro h
    rw [((u.ready_iff b).mp h.1).1] at closed
    cases closed
  · show Host.Outcome.next (s.outOfReset _) = _
    rw [State.outOfReset_of_not hr]
    dsimp only
    split
    · next row h => exact absurd h (hstate row)
    · rfl
  · show Host.Outcome.next (s.outOfReset _) = _
    rw [State.outOfReset_of_not hr, if_neg hstate]

/-! ### Warm-up refreshes (R15, R172) -/

/-- Every present bank is CLOSED once one has become so, if every other one is. -/
theorem State.allPresent_setBank {s : State} {b : Bank} {l : BankLane} {st : BankState} (hl : l.state = st) :
    (s.setBank b l).allPresent st = true ↔ ∀ b', b' ≠ b → s.present b' = true → (s.bank b').state = st := by
  rw [State.allPresent_iff]
  refine ⟨fun h b' hb hp => ?_, fun h b' hp => ?_⟩
  · rw [← s.bank_setBank_other l hb]
    exact h b' hp
  · by_cases hb : b' = b
    · rw [hb, State.bank_setBank_same]; exact hl
    · rw [State.bank_setBank_other _ _ hb]
      exact h b' hb hp

/-- Settles O43: the pointer below 8 and at it. -/
theorem warmupRefreshesBringTheBanksUp : Obligations.WarmupRefreshesBringTheBanksUp := by
  intro b s hr l goes others
  have row (h : l.state = .warming) : exec (.warmupRefreshEnd b) s =
      .next (if (l.pointer + 1).toNat < 8 then goes .warming else (goes .closed).warmupTest) := by
    show Host.Outcome.next (s.outOfReset _) = _
    rw [State.outOfReset_of_not hr, if_pos h]
    rfl
  have closed : (goes .closed).allPresent .closed = true ↔ others := State.allPresent_setBank rfl
  refine ⟨fun hstate => ⟨fun few => ?_, fun many => ⟨fun stays => ?_,
    fun hm hall => ⟨?_, State.reconsiderAll_choicesOf _⟩⟩⟩, fun hstate => ?_⟩
  · rw [row hstate, if_pos few]
  · rw [row hstate, if_neg (Nat.not_lt.mpr many), State.warmupTest, if_neg]
    exact fun ⟨hm, hall⟩ => stays.elim (· hm) (· (closed.mp hall))
  · rw [row hstate, if_neg (Nat.not_lt.mpr many), State.warmupTest, if_pos ⟨hm, closed.mpr hall⟩]
    rfl
  · show Host.Outcome.next (s.outOfReset _) = _
    rw [State.outOfReset_of_not hr, if_neg hstate]

end Sys2Proof.Machine
end

section
/-! The queue after a grant: O47. -/

namespace Sys2Proof.Machine

/-- A record that an older one of the bank is passed over by, where it is eligible (R87). -/
def passedBy (r : Record) (older : List Record) (p : Record) : Record :=
  if r.selected = some .openRowLine ∧ p.bank = r.bank ∧ eligible older p = true then p.bypassed else p

/-- The records older than the granted one, after the grant. -/
theorem grantQueue_older {a : List Record} {r : Record} :
    ∃ a', (if r.selected = some .openRowLine then bypassOlder r.bank [] a else a) = a' ∧ a'.length = a.length ∧
      ∀ j p, a[j]? = some p → a'[j]? = some (passedBy r (a.take j) p) := by
  unfold passedBy
  by_cases hline : r.selected = some .openRowLine
  · obtain ⟨hlength, hget⟩ := bypassOlder_get r.bank [] a
    refine ⟨_, if_pos hline, hlength, fun j p hp => ?_⟩
    rw [hget j p hp, List.nil_append]
    simp only [hline, true_and]
  · exact ⟨a, if_neg hline, rfl, fun j p hp => by rw [hp, if_neg fun h => hline h.1]⟩

/-- What a grant leaves at each place of the queue (R27, R87). -/
theorem grantQueue_get {q : List Record} {i : Nat} {r : Record} (h : q[i]? = some r) :
    (grantQueue q i r).length = q.length ∧ ∀ j p, q[j]? = some p → (grantQueue q i r)[j]? = some
      (if j = i then { r with state := .active, selected := none } else if j < i then passedBy r (q.take j) p else p) := by
  obtain ⟨a, b, rfl, rfl⟩ := exists_split_of_getElem? h
  obtain ⟨a', older, length, get⟩ := grantQueue_older (a := a) (r := r)
  have queue : grantQueue (a ++ r :: b) a.length r = a' ++ { r with state := .active, selected := none } :: b := by
    unfold grantQueue
    simp only [List.take_left', older]
    simp
  rw [queue]
  refine ⟨by simp [length], fun j p hp => ?_⟩
  rcases Nat.lt_trichotomy j a.length with hj | rfl | hj
  · rw [List.getElem?_append_left hj] at hp
    rw [List.getElem?_append_left (by omega), get j p hp, if_neg (Nat.ne_of_lt hj), if_pos hj, List.take_append_of_le_length hj.le]
  · rw [if_pos rfl, ← length]
    simp
  · rw [List.getElem?_append_right hj.le] at hp
    rw [List.getElem?_append_right (by omega), if_neg (Nat.ne_of_gt hj), if_neg (Nat.lt_asymm hj), length]
    obtain ⟨k, hk⟩ : ∃ k, j - a.length = k + 1 := ⟨j - a.length - 1, by omega⟩
    rw [hk] at hp ⊢
    exact hp

/-- Settles O47: the search for the oldest selection, then the bypass counts place by place. -/
theorem grantsNameTheOldestSelection : Obligations.GrantsNameTheOldestSelection := by
  intro s hr
  have row : exec .dataPathGrant s = .next s.grant := by
    show Host.Outcome.next (s.outOfReset _) = _
    rw [State.outOfReset_of_not hr]
  refine ⟨fun i r free names => ?_, fun none => ?_⟩
  · obtain ⟨length, get⟩ := grantQueue_get names.1.1
    refine ⟨grantQueue s.queue i r, by rw [row, State.grant_eq free names]; rfl, length, fun j p hp => ?_⟩
    rw [get j p hp]
    split
    · rfl
    · unfold passedBy
      by_cases hj : j < i
      · simp only [hj, if_true, true_and]
        rfl
      · simp only [hj, if_false, false_and]
  · rw [row, State.grant]
    by_cases free : s.pathFree = true
    · have noPlace := s.grantPlace_none_iff.mpr (none.resolve_left (by rw [free]; nofun))
      rw [if_pos free, noPlace]
    · rw [if_neg free]

end Sys2Proof.Machine
end

section
/-! The ends of words: O44, O45 and O46. -/

namespace Sys2Proof.Machine

/-! ### The word moved (R28, R35 to R37) -/

theorem Record.readReport {r : Record} (hk : r.kind = .read) :
    (r.source = .host → r.parityReport = ⟨.parityRead, r.bank, some (r.nextRow, r.nextCol), some r.source, 1⟩) ∧
      ∀ c, r.source = .chan c → r.parityReport = ⟨.parityFetch, r.bank, some (r.nextRow, r.nextCol), some r.source, 1⟩ := by
  unfold Record.parityReport
  rw [hk]
  exact ⟨fun hs => by rw [hs], fun c hs => by rw [hs]⟩

theorem Record.mergeReport {r : Record} (hk : r.kind = .byteWrite) :
    r.parityReport = ⟨.parityMerge, r.bank, some (r.nextRow, r.nextCol), some r.source, 1⟩ := by
  unfold Record.parityReport
  rw [hk]

/-- The end of a word that is not reported. -/
theorem State.endWord_good {s : State} {r : Record} (i : Nat) (h : s.wordBad r = false) :
    s.endWord i r = { s.moveWord r with queue := s.queue.set i { r with done := r.done + 1 } } := by
  rw [State.endWord_eq, h]
  rfl

/-- The end of a word that is reported. -/
theorem State.endWord_bad {s : State} {r : Record} (i : Nat) (h : s.wordBad r = true) :
    s.endWord i r =
      { (s.recordFault r.parityReport).moveWord r with queue := s.queue.set i { r with done := r.done + 1, status := .error } } := by
  rw [State.endWord_eq, h]
  rfl

/-- A byte write that merges writes the merged word (R35). -/
theorem State.moveWord_merged {s : State} {r : Record} {lane : ByteLane} {v : Byte} (hk : r.kind = .byteWrite)
    (hb : r.byteWrite = some (lane, v)) (h : (s.wordAt r).untouchedGood lane = true) :
    s.moveWord r = s.putWord r (StoreWord.fresh (mergeByte (s.wordAt r).data lane v)) := by
  rw [State.moveWord, hk]
  simp only [hb, h, if_true]

/-- A byte write that does not merge leaves the store (R36). -/
theorem State.moveWord_unmerged {s : State} {r : Record} {lane : ByteLane} {v : Byte} (hk : r.kind = .byteWrite)
    (hb : r.byteWrite = some (lane, v)) (h : (s.wordAt r).untouchedGood lane = false) : s.moveWord r = s := by
  rw [State.moveWord, hk]
  simp only [hb, h, Bool.false_eq_true, if_false]

/-- The end of a byte write's word, by whether the byte that it leaves is good (R35, R36). -/
theorem State.endWord_byteWrite {s : State} {r : Record} {lane : ByteLane} {v : Byte} (i : Nat) (hk : r.kind = .byteWrite)
    (hb : r.byteWrite = some (lane, v)) :
    ((s.wordAt r).untouchedGood lane = true →
      s.endWord i r = { s with
        store := s.store.write r.bank r.nextRow r.nextCol (StoreWord.fresh (mergeByte (s.wordAt r).data lane v))
        queue := s.queue.set i { r with done := r.done + 1 } }) ∧
    (¬(s.wordAt r).untouchedGood lane = true →
      s.endWord i r = { s.recordFault ⟨.parityMerge, r.bank, some (r.nextRow, r.nextCol), some r.source, 1⟩ with
        queue := s.queue.set i { r with done := r.done + 1, status := .error } }) := by
  have bad : s.wordBad r = !(s.wordAt r).untouchedGood lane := by
    rw [State.wordBad, hk, hb]
    rfl
  refine ⟨fun h => ?_, fun h => ?_⟩
  · rw [State.endWord_good i (by rw [bad, h]; rfl), State.moveWord_merged hk hb h]
    rfl
  · have unmerged : (s.wordAt r).untouchedGood lane = false := by simpa using h
    have same : (s.recordFault r.parityReport).wordAt r = s.wordAt r := by rw [s.recordFault_frame r.parityReport]; rfl
    rw [State.endWord_bad i (by rw [bad, unmerged]; rfl), State.moveWord_unmerged hk hb (by rw [same]; exact unmerged),
      Record.mergeReport hk]

/-- The end of a word moves it (R28, R35 to R37, R153). -/
theorem State.endWord_wordMoved (s : State) (i : Nat) (r : Record) : s.WordMoved i r (s.endWord i r) := by
  unfold State.WordMoved
  cases hkind : r.kind with
  | read =>
    have bad : s.wordBad r = (s.store.read r.bank r.nextRow r.nextCol).bad := by rw [State.wordBad, hkind]; rfl
    obtain ⟨host, chan⟩ := Record.readReport hkind
    cases hsource : r.source with
    | host =>
      dsimp only
      rw [← hsource, ← host hsource, ← bad]
      split
      · next h =>
        rw [State.endWord_bad i h, State.moveWord, hkind, hsource, State.deliver, s.recordFault_frame r.parityReport]
        rfl
      · next h =>
        rw [State.endWord_good i (by simpa using h), State.moveWord, hkind, hsource, State.deliver]
        rfl
    | chan c =>
      dsimp only
      rw [← hsource, ← chan c hsource, ← bad]
      split
      · next h =>
        rw [State.endWord_bad i h, State.moveWord, hkind, hsource, State.deliver, s.recordFault_frame r.parityReport]
        rfl
      · next h =>
        rw [State.endWord_good i (by simpa using h), State.moveWord, hkind, hsource, State.deliver]
        rfl
  | write =>
    have good : s.wordBad r = false := by rw [State.wordBad, hkind]
    rw [State.endWord_good i good, State.moveWord, hkind]
    cases hsource : r.source with
    | host =>
      refine ⟨s.writeWord r, fun d hd => ?_, rfl⟩
      rw [State.writeWord, hsource, hd]
      rfl
    | chan c =>
      refine ⟨s.writeWord r, fun d hd => ?_, ?_⟩
      · rw [State.writeWord, hsource]
        show (s.chan c).fifo.head?.getD _ = d
        rw [hd]
        rfl
      · rw [List.drop_one]
        rfl
  | byteWrite =>
    dsimp only
    intro lane v hbyte
    obtain ⟨merged, spoilt⟩ := State.endWord_byteWrite (s := s) i hkind hbyte
    rw [hkind] at merged spoilt
    cases lane with
    | low =>
      dsimp only
      split
      · next h => exact merged h
      · next h => exact spoilt h
    | high =>
      dsimp only
      split
      · next h => exact merged h
      · next h => exact spoilt h

/-! ### The row that ends a word -/

/-- The row of the word in progress ends the word and goes on as the checks say (R29, R33, R35). -/
theorem exec_endRow {s : State} {i : Nat} {r : Record} (hr : s.inReset = false) (h : s.InFlightAt i r) :
    exec (endRow r) s = .next ((s.endWord i r).afterWord i (r.wordDone (s.wordBad r))) := by
  have ends (isRmw : Bool) (hk : (r.kind == .byteWrite) = isRmw) :
      s.wordEnd isRmw = (s.endWord i r).afterWord i (r.wordDone (s.wordBad r)) := by
    rw [State.wordEnd, State.inFlight_eq h]
    exact if_pos ⟨hk, h.2.2.2⟩
  unfold endRow
  split
  · next hk =>
    show Host.Outcome.next (s.outOfReset _) = _
    rw [State.outOfReset_of_not hr, ends true (by rw [hk]; rfl)]
  · next hk =>
    show Host.Outcome.next (s.outOfReset _) = _
    rw [State.outOfReset_of_not hr, ends false (by simpa using hk)]

theorem State.inFlightAt_of {s : State} {i : Nat} {r : Record} (h : s.inFlight = some (i, r))
    (hb : (s.bank r.bank).state = .transferring) : s.InFlightAt i r := by
  obtain ⟨hplace, hactive⟩ := State.inFlight_spec h
  refine ⟨hplace, hactive, fun j q hj hq hstate => ?_, hb⟩
  unfold State.inFlight at h
  split at h
  · cases h
  · next k hk =>
    obtain ⟨⟨p, hp, _⟩, before⟩ := findIdx?_iff_getElem?.mp hk
    rw [hp] at h
    cases h
    simpa [hstate] using before j q hj hq

/-- A row that is not of the word in progress changes nothing (entry 3). -/
theorem State.wordEnd_other {s : State} {isRmw : Bool} (h : ∀ i r, s.InFlightAt i r → (r.kind == .byteWrite) ≠ isRmw) :
    s.wordEnd isRmw = s := by
  unfold State.wordEnd
  split
  · rfl
  · next i r hflight => exact if_neg fun ⟨hk, hbank⟩ => h i r (State.inFlightAt_of hflight hbank) hk

/-- The causes to stop are of the lanes, the timing table, the Weak Row List and the precharge-all action. -/
theorem State.mustStop_of {s m : State} (banks : m.banks = s.banks) (timing : m.timing = s.timing) (weak : m.weak = s.weak)
    (action : m.prechargeAll = s.prechargeAll) (b : Bank) : m.MustStop b ↔ s.MustStop b := by
  unfold State.MustStop State.pl State.timingByte State.bank
  rw [banks, timing, weak, action]

end Sys2Proof.Machine
end

section
/-! What follows a word: the run that goes on or is suspended, the completion, and the removal in QUIESCING: O44, O45 and O46. -/

namespace Sys2Proof.Machine

/-! ### The checks after a word, in their order (R29, R33) -/

section
variable {m : State} {q : Record} (i : Nat)

theorem State.afterWord_quiescing (hm : m.mode = .quiescing) : m.afterWord i q = m.quiesceRemove i q := if_pos hm

variable (hm : m.mode ≠ .quiescing)
include hm

theorem State.afterWord_complete (last : q.count ≤ q.done) : m.afterWord i q = m.complete i q := by
  rw [State.afterWord, if_neg hm, if_pos last]

theorem State.afterWord_suspend (more : q.done < q.count)
    (ends : some q.nextRow ≠ (m.bank q.bank).line.openRow ∨ m.MustStop q.bank) : m.afterWord i q = m.suspend i q := by
  rw [State.afterWord, if_neg hm, if_neg (Nat.not_le.mpr more)]
  split
  · rfl
  · next hrow => rw [if_pos ((m.stopCause_iff _).mpr (ends.resolve_left hrow))]

theorem State.afterWord_continue (more : q.done < q.count) (row : some q.nextRow = (m.bank q.bank).line.openRow)
    (hstop : ¬m.MustStop q.bank) : m.afterWord i q = m.continueRun q.bank := by
  rw [State.afterWord, if_neg hm, if_neg (Nat.not_le.mpr more), if_neg fun h => h row, if_neg (mt (m.stopCause_iff _).mp hstop)]

end

section
variable {s : State} {i : Nat} {r : Record}

theorem State.endWord_bank (s : State) (i : Nat) (r : Record) (b : Bank) : (s.endWord i r).bank b = s.bank b := by
  unfold State.bank
  rw [(s.endWord_keeps i r).1]

/-- The record at its place after its word. -/
theorem State.endWord_place (h : s.queue[i]? = some r) : (s.endWord i r).queue[i]? = some (r.wordDone (s.wordBad r)) := by
  obtain ⟨_, _, _, _, _, queue, _⟩ := s.endWord_keeps i r
  rw [queue]
  simp [(List.getElem?_eq_some_iff.mp h).1]

/-- The causes to stop are not touched by a word. -/
theorem State.endWord_mustStop (s : State) (i : Nat) (r : Record) (b : Bank) : (s.endWord i r).MustStop b ↔ s.MustStop b := by
  obtain ⟨banks, _, action, weak, timing, _, _⟩ := s.endWord_keeps i r
  exact State.mustStop_of banks timing weak action b

/-- The run goes on over the same grant (R29 check 4). -/
theorem State.afterWord_continues (hm : s.mode ≠ .quiescing) (more : r.done + 1 < r.count)
    (inRow : (s.bank r.bank).line.openRow = some ({ r with done := r.done + 1 } : Record).nextRow) (hstop : ¬s.MustStop r.bank) :
    (s.endWord i r).afterWord i (r.wordDone (s.wordBad r)) =
      { s.endWord i r with banks := s.banks.set r.bank { s.bank r.bank with state := .transferring, elapsed := 0 } } := by
  obtain ⟨banks, mode, _⟩ := s.endWord_keeps i r
  have row : some (r.wordDone (s.wordBad r)).nextRow = ((s.endWord i r).bank r.bank).line.openRow := by
    rw [State.endWord_bank, inRow]
    rfl
  rw [State.afterWord_continue i (mode ▸ hm) more row fun h => hstop ((State.endWord_mustStop s i r _).mp h)]
  show ({ s.endWord i r with
    banks := (s.endWord i r).banks.set r.bank (((s.endWord i r).bank r.bank).enter .transferring) } : State) = _
  rw [State.endWord_bank, banks]
  rfl

/-- The record is RESUMABLE and its bank OPEN (R29 checks 2 and 3). -/
theorem State.afterWord_suspends (hplace : s.queue[i]? = some r) (hm : s.mode ≠ .quiescing) (more : r.done + 1 < r.count)
    (ends : ¬(s.bank r.bank).line.openRow = some ({ r with done := r.done + 1 } : Record).nextRow ∨ s.MustStop r.bank) :
    (s.endWord i r).afterWord i (r.wordDone (s.wordBad r)) =
      State.reconsider { s.endWord i r with
        banks := s.banks.set r.bank { s.bank r.bank with state := .rowOpen, elapsed := 0 }
        queue := (s.endWord i r).queue.modify i fun q => { q with state := .resumable } } r.bank := by
  obtain ⟨banks, mode, _⟩ := s.endWord_keeps i r
  have suspends : (s.endWord i r).afterWord i (r.wordDone (s.wordBad r)) =
      (s.endWord i r).suspend i (r.wordDone (s.wordBad r)) := by
    refine State.afterWord_suspend i (mode ▸ hm) more (ends.imp (fun hrow hnext => hrow ?_) (State.endWord_mustStop s i r _).mpr)
    rw [State.endWord_bank] at hnext
    exact hnext.symm
  have queue : (s.endWord i r).queue.set i { r.wordDone (s.wordBad r) with state := .resumable } =
      (s.endWord i r).queue.modify i fun q => { q with state := .resumable } := by
    obtain ⟨a, c, hq, rfl⟩ := exists_split_of_getElem? (State.endWord_place hplace)
    rw [hq, modify_length_append]
    simp
  rw [suspends, State.suspend, queue, State.releasePath]
  show State.reconsider { s.endWord i r with
    banks := (s.endWord i r).banks.set r.bank (((s.endWord i r).bank r.bank).enter .rowOpen)
    queue := _ } r.bank = _
  rw [State.endWord_bank, banks]
  rfl

/-- The state with the record in flight gone after its word and its bank OPEN. -/
theorem State.endWord_left (s : State) (i : Nat) (r : Record) (b : Bank) :
    ((s.endWord i r).releasePath b).removeAt i = { s.endWord i r with
      banks := s.banks.set b { s.bank b with state := .rowOpen, elapsed := 0 }, queue := (s.endWord i r).queue.eraseIdx i } := by
  obtain ⟨banks, _⟩ := s.endWord_keeps i r
  rw [State.releasePath, State.endWord_bank, State.setBank, banks]
  rfl

end

/-- Settles O44: the checks after a word, in their order. -/
theorem wordsMoveAndTheRunGoesOn : Obligations.WordsMoveAndTheRunGoesOn := by
  intro s hr
  have row (isRmw : Bool) (h : ∀ i r, s.InFlightAt i r → (r.kind == .byteWrite) ≠ isRmw) : s.outOfReset (·.wordEnd isRmw) = s := by
    rw [State.outOfReset_of_not hr, State.wordEnd_other h]
  have only {i j : Nat} {r q : Record} (h : s.InFlightAt i r) (k : s.InFlightAt j q) : q = r := by
    have := (State.inFlight_eq h).symm.trans (State.inFlight_eq k)
    cases this
    rfl
  refine ⟨fun i r h => ⟨fun hm more => ⟨s.endWord i r, s.endWord_wordMoved i r, fun inRow hstop => ?_, fun ends => ⟨?_, ?_⟩⟩,
    fun hk => ?_, fun hk => ?_⟩, fun none => ⟨?_, ?_⟩⟩
  · rw [exec_endRow hr h, State.afterWord_continues hm more inRow hstop]
  · rw [exec_endRow hr h, State.afterWord_suspends h.1 hm more ends]
  · exact State.reconsider_choiceOf _ _
  · exact congrArg Host.Outcome.next (row false fun j q k => by rw [only h k, hk]; nofun)
  · exact congrArg Host.Outcome.next (row true fun j q k => by rw [only h k]; simpa using hk)
  · exact congrArg Host.Outcome.next (row false fun j q k => absurd k (none j q))
  · exact congrArg Host.Outcome.next (row true fun j q k => absurd k (none j q))

end Sys2Proof.Machine
end

section
/-! The completion of a record, and its removal in QUIESCING: O45 and O46. -/

namespace Sys2Proof.Machine

/-- The movement of a word leaves the state of each channel. -/
theorem State.endWord_chanState (s : State) (i : Nat) (r : Record) (c : Chan) :
    ((s.endWord i r).chan c).state = (s.chan c).state := by
  have same : (s.recordFaultIf (s.wordBad r) r.parityReport).chan c = s.chan c := by
    obtain ⟨_, _, _, h⟩ := s.recordFaultIf_frame (s.wordBad r) r.parityReport
    rw [h]
    rfl
  rw [State.endWord_eq]
  show (((s.recordFaultIf (s.wordBad r) r.parityReport).moveWord r).chan c).state = _
  rw [State.moveWord_chan, same]
  split
  · unfold Channel.wordMoved
    split <;> rfl
  · rfl

/-- The effects of a completion leave the mode and the precharge-all action. -/
theorem State.completionEffects_keeps (s : State) (r : Record) :
    (s.completionEffects r).mode = s.mode ∧ (s.completionEffects r).prechargeAll = s.prechargeAll := by
  have raised (u : State) (cause : Bool) (e : Event) :
      (u.raiseIf cause e).mode = u.mode ∧ (u.raiseIf cause e).prechargeAll = u.prechargeAll := by
    cases cause <;> exact ⟨rfl, rfl⟩
  unfold State.completionEffects
  split
  · exact raised _ _ _
  · exact raised _ _ _
  · unfold State.drainTest
    split <;> exact ⟨rfl, rfl⟩

/-- A channel that drains without records left is IDLE with CH_IDLE (R130). -/
theorem State.drainTest_eq (s : State) (c : Chan) :
    s.drainTest c = if (s.chan c).state = .draining ∧ (s.queue.all fun p => p.source != .chan c) = true then
      { s with chans := s.chans.set c { s.chan c with state := .idle }, events := s.events.raise .chIdle } else s := by
  have none : s.outstanding c = 0 ↔ (s.queue.all fun p => p.source != .chan c) = true := by
    simp [State.outstanding, List.countP_eq_zero]
  unfold State.drainTest
  simp only [none]
  rfl

/-- With the precharge-all action present in HOLD_ENTRY the choices leave it, or the mode is HOLD (R179). -/
theorem State.ChoicesOf.holdAction {v t : State} (h : v.ChoicesOf t) (hm : v.mode = .holdEntry) (action : v.prechargeAll = true) :
    t.prechargeAll = true ∨ t.mode = .hold := by
  obtain ⟨_, _, passage, _⟩ := h
  rcases passage with ⟨_, same, _⟩ | ⟨_, _, present, _⟩ | ⟨_, hold, _⟩ | ⟨quiescing, _⟩
  · exact .inl (same.trans action)
  · exact .inl present
  · exact .inr hold
  · rw [hm] at quiescing; cases quiescing

/-- The end of the last word: removal, completion effects, and the looks of all banks (R29, R89). -/
theorem exec_lastWord {s : State} {i : Nat} {r : Record} (hr : s.inReset = false) (h : s.InFlightAt i r) (hm : s.mode ≠ .quiescing)
    (last : r.count ≤ r.done + 1) {u : State}
    (hu : u = State.completionEffects { s.endWord i r with
      banks := s.banks.set r.bank { s.bank r.bank with state := .rowOpen, elapsed := 0 }
      queue := (s.endWord i r).queue.eraseIdx i } (r.wordDone (s.wordBad r))) :
    exec (endRow r) s = .next u.afterRemoval.reconsiderAll ∧ u.mode = s.mode ∧ u.prechargeAll = s.prechargeAll := by
  obtain ⟨_, mode, action, _⟩ := s.endWord_keeps i r
  rw [exec_endRow hr h, State.afterWord_complete i (mode ▸ hm) last, State.complete]
  show _ = Host.Outcome.next _ ∧ _
  rw [show (r.wordDone (s.wordBad r)).bank = r.bank from rfl, State.endWord_left, ← hu]
  refine ⟨rfl, ?_, ?_⟩
  · rw [hu, (State.completionEffects_keeps _ _).1]
    exact mode
  · rw [hu, (State.completionEffects_keeps _ _).2]
    exact action

/-- What the completion of a host record leaves, by what it does to the host unit (R103, R107, R108). -/
theorem State.hostCompletion (s : State) (host : HostUnit) (e : Event) (bad : Bool) :
    (State.raise { s with host := host } e).raiseIf bad .hostErr =
      { s with host := host, events := if bad then (s.events.raise e).raise .hostErr else s.events.raise e } := by
  cases bad <;> rfl

section
variable {s : State} {r : Record}

theorem State.completionEffects_read (hs : r.source = .host) (hk : r.kind = .read) :
    s.completionEffects r = { s with
      host := { s.host with rdbad := s.host.rdbad || r.status == .error }
      events := if r.status == .error then (s.events.raise .hrdDone).raise .hostErr else s.events.raise .hrdDone } := by
  rw [State.completionEffects, hs, hk]
  exact s.hostCompletion _ _ _

theorem State.completionEffects_write (hs : r.source = .host) (hk : r.kind ≠ .read) :
    s.completionEffects r = { s with
      host := { s.host with writeBuf := [] }
      events := if r.status == .error then (s.events.raise .hwrDone).raise .hostErr else s.events.raise .hwrDone } := by
  rw [State.completionEffects, hs]
  cases hkind : r.kind with
  | read => exact absurd hkind hk
  | write => exact s.hostCompletion _ _ _
  | byteWrite => exact s.hostCompletion _ _ _

theorem State.completionEffects_chan {c : Chan} (hs : r.source = .chan c) : s.completionEffects r = s.drainTest c := by
  rw [State.completionEffects, hs]

theorem State.clearWaiting_read (hs : r.source = .host) (hk : r.kind = .read) :
    s.clearWaiting r = { s with host := { s.host with readBuf := [], rdbad := false } } := by
  rw [State.clearWaiting, hs, hk]

theorem State.clearWaiting_write (hs : r.source = .host) (hk : r.kind = .write) :
    s.clearWaiting r = { s with host := { s.host with writeBuf := [], writeOpen := none } } := by
  rw [State.clearWaiting, hs, hk]

theorem State.clearWaiting_byteWrite (hs : r.source = .host) (hk : r.kind = .byteWrite) : s.clearWaiting r = s := by
  rw [State.clearWaiting, hs, hk]

theorem State.clearWaiting_chan_eq {c : Chan} (hs : r.source = .chan c) : s.clearWaiting r = s.flushFifo c := by
  rw [State.clearWaiting, hs]

end

/-- Settles O45: the completion effects by the record's source and kind, then the report of the removal. -/
theorem lastWordsCompleteTheirRecord : Obligations.LastWordsCompleteTheirRecord := by
  intro s i r hr h hm last
  refine ⟨s.endWord i r, r.wordDone (s.wordBad r), s.endWord_wordMoved i r, State.endWord_place h.1, ?_⟩
  intro bad done left u v t
  have effects : u = left.completionEffects (r.wordDone (s.wordBad r)) := by
    cases hs : r.source with
    | host =>
      cases hk : r.kind with
      | read =>
        rw [State.completionEffects_read (r := r.wordDone _) hs hk]
        simp only [u, hs, hk]
        rfl
      | write =>
        rw [State.completionEffects_write (r := r.wordDone _) hs (by show r.kind ≠ _; rw [hk]; nofun)]
        simp only [u, hs, hk]
        rfl
      | byteWrite =>
        rw [State.completionEffects_write (r := r.wordDone _) hs (by show r.kind ≠ _; rw [hk]; nofun)]
        simp only [u, hs, hk]
        rfl
    | chan c =>
      rw [State.completionEffects_chan (r := r.wordDone _) hs, State.drainTest_eq]
      have state : (left.chan c).state = (s.chan c).state := s.endWord_chanState i r c
      rw [state]
      simp only [u, hs]
      rfl
  obtain ⟨row, mode, action⟩ := exec_lastWord hr h hm last effects
  have reported : u.afterRemoval = v := by
    have report : u.actionAfter u.queue = if s.mode = .holdEntry ∧ u.queue = [] then true else s.prechargeAll := by
      rw [State.actionAfter, mode, action]
    rw [State.afterRemoval_eq (mode ▸ hm), report]
  refine ⟨by rw [row, reported], ?_, fun hhold empty => ?_⟩
  · have looks := u.removal_choicesOf
    rw [reported] at looks
    exact looks
  · exact v.reconsiderAll_choicesOf.holdAction (mode.trans hhold) (if_pos ⟨hhold, empty⟩)

/-- The end of a word in QUIESCING: removal without effects, the test of R176, and the looks of all banks (R33, R94). -/
theorem exec_lastQuiescingWord {s : State} {i : Nat} {r : Record} (hr : s.inReset = false) (h : s.InFlightAt i r) (hm : s.mode = .quiescing)
    {u : State}
    (hu : u = State.clearWaiting { s.endWord i r with
      banks := s.banks.set r.bank { s.bank r.bank with state := .rowOpen, elapsed := 0 }
      queue := (s.endWord i r).queue.eraseIdx i } (r.wordDone (s.wordBad r))) :
    exec (endRow r) s = .next u.quiesceTest.reconsiderAll ∧ u.mode = .quiescing := by
  obtain ⟨_, mode, _⟩ := s.endWord_keeps i r
  have quiescing : u.mode = .quiescing := by
    rw [hu, State.clearWaiting_mode]
    exact mode.trans hm
  rw [exec_endRow hr h, State.afterWord_quiescing i (mode.trans hm), State.quiesceRemove]
  rw [show (r.wordDone (s.wordBad r)).bank = r.bank from rfl, State.endWord_left, ← hu, State.afterRemoval_quiescing quiescing]
  exact ⟨rfl, quiescing⟩

/-- Settles O46: what waited for the record, by its source and kind; the looks of the banks keep the mode that the test of R176 gives. -/
theorem quiescingRemovesTheRecordInFlight : Obligations.QuiescingRemovesTheRecordInFlight := by
  intro s i r hr h hm
  refine ⟨s.endWord i r, s.endWord_wordMoved i r, ?_⟩
  intro left u t
  have cleared : u = left.clearWaiting (r.wordDone (s.wordBad r)) := by
    have strobe : (s.endWord i r).strobe = s.strobe := by
      obtain ⟨_, _, _, _, _, _, strobe⟩ := s.endWord_keeps i r
      exact strobe
    cases hs : r.source with
    | host =>
      cases hk : r.kind with
      | read =>
        rw [State.clearWaiting_read (r := r.wordDone _) hs hk]
        simp only [u, hs, hk]
        rfl
      | write =>
        rw [State.clearWaiting_write (r := r.wordDone _) hs hk]
        simp only [u, hs, hk]
        rfl
      | byteWrite =>
        rw [State.clearWaiting_byteWrite (r := r.wordDone _) hs hk]
        simp only [u, hs, hk]
    | chan c =>
      rw [State.clearWaiting_chan_eq (r := r.wordDone _) hs]
      simp only [u, hs, ← strobe]
      rfl
  obtain ⟨row, quiescing⟩ := exec_lastQuiescingWord hr h hm cleared
  refine ⟨row, ?_, ?_⟩
  · have looks := u.removal_choicesOf
    rw [State.afterRemoval_quiescing quiescing] at looks
    exact looks
  · rw [State.reconsiderAll_mode _ (u.quiesceTest_ne quiescing)]
    exact u.quiesceTest_mode quiescing

end Sys2Proof.Machine
end

section
/-! The reset values, the two resets, and the writes of TDATA: O4, O6 and O29. -/

namespace Sys2Proof.Machine

/-- A register that is neither a data register, TDATA nor CAUSE reads its reset value (R186). -/
theorem State.reset_readRegister (a : BitVec 5) (datal : a ≠ 0x09) (datah : a ≠ 0x0A) (tdata : a ≠ 0x15) (cause : a ≠ 0x1D) :
    State.reset.readRegister a = if a = 0x1E then 0x82 else if a = 0x1F then 0x01 else 0x00 := by
  revert a
  decide

/-- Settles O4. Each register's value is looked up by its address; the other items stand in `State.reset`. -/
theorem resetValuesStand : Obligations.ResetValuesStand := by
  have bank (b : Bank) : State.reset.bank b = BankLane.reset := by cases b <;> rfl
  have chan (c : Chan) : State.reset.chan c = Channel.reset := by cases c <;> rfl
  have bits (b : Bank) : State.reset.present b = false := (State.timingReset_bits rfl b).1
  have descriptor (i : Nat) : Channel.reset.descByte i = 0 := by
    simp only [Channel.descByte, Channel.reset, Vector.getElem?_replicate]
    split <;> rfl
  refine ⟨rfl, rfl, rfl, rfl, rfl, rfl, rfl, rfl, fun b => ?_, by decide, rfl, rfl, rfl, rfl, rfl, by decide, fun c => ?_,
    rfl, rfl, rfl, rfl, rfl, rfl, by decide, State.reset_readRegister⟩
  · rw [bank]
    exact ⟨bits b, rfl, rfl, rfl, rfl, rfl, rfl⟩
  · rw [chan]
    exact ⟨rfl, descriptor, rfl, rfl, rfl, rfl, rfl, rfl, rfl, rfl, rfl, rfl, rfl⟩

/-- Settles O6: the state left by either reset is written out in the model as the obligation has it. -/
theorem resetsTakeEveryItemToItsResetValue : Obligations.ResetsTakeEveryItemToItsResetValue :=
  fun _ => ⟨rfl, rfl⟩

/-- The sizes of R189 are those of the model's tables. -/
theorem tableOf_size (tsel : Byte) : (tableOf tsel).size = tableSizeOf tsel := by
  revert tsel
  decide

/-- TSEL 0 selects the timing table, and no other value does (R189). -/
theorem tableOf_eq_timing {tsel : Byte} : tableOf tsel = .timing ↔ tsel = 0 := by
  revert tsel
  decide

/-- TSEL 1 to 3 select the descriptors of the channels, and no other value does (R189). -/
theorem tableOf_eq_descriptor {tsel : Byte} (c : Chan) : tableOf tsel = .descriptor c ↔ tsel.toNat = c.num + 1 := by
  revert tsel
  cases c <;> decide

/-- There are three channels. -/
theorem Chan.num_lt (c : Chan) : c.num < 3 := by cases c <;> decide

/-- TIDX after a TDATA access, as R189 states it. -/
theorem HostRegs.advance_eq (r : HostRegs) : r.advance = { r with tidx := nextIndex r.tsel r.tidx } := by
  rw [HostRegs.advance, tableOf_size, nextIndex]

/-- The selected table takes a write at an index inside it: the timing table in SETUP, a descriptor while its channel is
IDLE or FAULTED without records (R164, R190). -/
theorem State.tableWritable_iff (s : State) :
    s.tableWritable = true ↔ s.regs.tidx.toNat < tableSizeOf s.regs.tsel ∧
      ((s.regs.tsel = 0 ∧ s.mode = .setup) ∨
        ∃ c : Chan, s.regs.tsel.toNat = c.num + 1 ∧ ((s.chan c).state = .idle ∨ (s.chan c).state = .faulted) ∧ s.outstanding c = 0) := by
  rw [State.tableWritable, tableOf_size, Bool.and_eq_true, decide_eq_true_iff]
  simp only [← tableOf_eq_timing, ← tableOf_eq_descriptor]
  cases tableOf s.regs.tsel <;> simp

/-- A taken write of TDATA. -/
theorem execTdataWrite_taken {s : State} (hr : s.inReset = false) (v : Byte) (h : s.tableWritable = true) :
    exec (.tdataWrite v) s = .next (s.storeTable v).advanceIndex := by
  show Host.Outcome.next (s.outOfReset _) = _
  rw [State.outOfReset_of_not hr, if_pos h]

/-- A refused write of TDATA raises TBL_REF (R190). -/
theorem execTdataWrite_refused {s : State} (hr : s.inReset = false) (v : Byte) (h : ¬s.tableWritable = true) :
    exec (.tdataWrite v) s = .next (s.raise .tblRef).advanceIndex := by
  show Host.Outcome.next (s.outOfReset _) = _
  rw [State.outOfReset_of_not hr, if_neg h]

/-- A taken write of the timing table. -/
theorem execTdataWrite_timing {s : State} (hr : s.inReset = false) (v : Byte) (selected : s.regs.tsel = 0) (hm : s.mode = .setup)
    (h : s.regs.tidx.toNat < 12) :
    exec (.tdataWrite v) s = .next (s.storeTiming s.regs.tidx.toNat v).advanceIndex := by
  have inside : s.regs.tidx.toNat < tableSizeOf s.regs.tsel := by rw [selected]; exact h
  rw [execTdataWrite_taken hr v (s.tableWritable_iff.2 ⟨inside, .inl ⟨selected, hm⟩⟩), State.storeTable, tableOf_eq_timing.2 selected]

/-- Settles O29: the writable places of each table, then the timing table byte by byte. -/
theorem tableWritesAreTakenOrRefused : Obligations.TableWritesAreTakenOrRefused := by
  intro s v hr i regs timing
  have advanced : s.regs.advance = regs := s.regs.advance_eq
  refine ⟨fun selected hm hi => ?_, fun selected hm hi => ?_, fun selected hm hi => ?_, fun c selected hi state empty => ?_, fun h => ?_⟩
  · rw [execTdataWrite_timing hr v selected hm (by omega), s.storeTiming_other v (by omega) (by omega), State.advanceIndex, advanced]
  · rw [execTdataWrite_timing hr v selected hm (by omega), show s.regs.tidx.toNat = 10 from hi, s.storeTiming_pagePol,
      State.advanceIndex, advanced, ← hi]
  · rw [execTdataWrite_timing hr v selected hm (by omega), show s.regs.tidx.toNat = 11 from hi, s.storeTiming_present,
      State.advanceIndex, advanced, ← hi]
    rfl
  · have table : tableOf s.regs.tsel = .descriptor c := (tableOf_eq_descriptor c).2 selected
    have inside : s.regs.tidx.toNat < tableSizeOf s.regs.tsel := by rw [← tableOf_size, table]; exact hi
    rw [execTdataWrite_taken hr v (s.tableWritable_iff.2 ⟨inside, .inr ⟨c, selected, state, empty⟩⟩), State.storeTable, table]
    show Host.Outcome.next (State.advanceIndex _) = _
    rw [State.advanceIndex, ← advanced]
    rfl
  · have refused : ¬s.tableWritable = true := by
      rw [State.tableWritable_iff]
      rintro ⟨inside, ⟨timingTable, setup⟩ | ⟨c, selected, state, empty⟩⟩
      · rcases h with ⟨_, mode⟩ | outside | high | ⟨c, other, _⟩
        · exact mode setup
        · exact absurd inside (by omega)
        · rw [timingTable] at high; exact absurd high (by decide)
        · rw [timingTable] at other; exact absurd other.symm (Nat.succ_ne_zero _)
      · rcases h with ⟨timingTable, _⟩ | outside | high | ⟨d, other, busy⟩
        · rw [timingTable] at selected; exact absurd selected.symm (Nat.succ_ne_zero _)
        · exact absurd inside (by omega)
        · have := Chan.num_lt c; omega
        · obtain rfl : c = d :=
            Table.descriptor.inj (((tableOf_eq_descriptor c).2 selected).symm.trans ((tableOf_eq_descriptor d).2 other))
          rcases busy with running | draining | records
          · rw [running] at state; simp at state
          · rw [draining] at state; simp at state
          · omega
    rw [execTdataWrite_refused hr v refused, State.advanceIndex, ← advanced]
    rfl

end Sys2Proof.Machine
end

section
/-! The limits of the lists and counters through every step: O58. -/

namespace Sys2Proof.Machine

/-- Settles O58: each law by itself is kept by every kind of change that the steps are made of. -/
theorem everyStepKeepsTheListAndCounterLimits : Obligations.EveryStepKeepsTheListAndCounterLimits := fun _ _ h =>
  have kept {law : State → Bool} (keeps : ∀ {s t}, Change s t → law s = true → law t = true) :=
    fun hs => step_keeps (P := fun s => law s = true) keeps hs h
  ⟨kept Change.weakLimits, kept Change.faultLimits, kept Change.debtLimits, kept Change.bypassLimits, kept Change.channelLimits,
    kept (law := fun s => s.store.wf) Change.wf⟩

end Sys2Proof.Machine
end

section
/-! The commands on a bank, BANK_PAUSE, BANK_RESUME and CLEAR_LOST: O24. -/

namespace Sys2Proof.Machine

/-! ### Commands on the bank that ARG0 names (R49, R51, R55) -/

/-- A command is refused by a mode that does not take it, with BUSY in QUIESCING and with MODE in the others (R173, R187). -/
theorem State.command_of_not_taken {s : State} (hr : s.inReset = false) {taken : List Mode} (hm : s.mode ∉ taken)
    (check : State → Option Result) (effect : State → State) :
    s.command taken .busy check effect = s.refuse (if s.mode = .quiescing then .busy else .mode) := by
  have untaken : taken.contains s.mode = false := by simpa using hm
  rw [State.command, State.outOfReset_of_not hr, modeTest, untaken]
  by_cases hq : s.mode = .quiescing <;> simp [hq]

/-- ARG0 names no present bank where the bank that it names, if any, is absent. -/
theorem State.argPresent_eq_none {s : State} (h : ∀ b, s.regs.argBank = some b → s.present b = false) : s.argPresent = none := by
  simpa [State.argPresent, Option.filter_eq_none_iff] using h

theorem State.argPresent_eq_some {s : State} {b : Bank} (hb : s.regs.argBank = some b) (hp : s.present b = true) :
    s.argPresent = some b := by
  rw [State.argPresent, hb, Option.filter_some, if_pos hp]

/-- A command on a bank, in a mode that takes it: RANGE where ARG0 names no present bank, and otherwise the first check of the bank
that fails, or the command's effect on the bank. -/
theorem State.command_onBank {s : State} (hr : s.inReset = false) {taken : List Mode} (hm : s.mode ∈ taken)
    (checks : State → Bank → List (Bool × Result)) (effect : State → Bank → State) :
    let answer := s.command taken .busy (fun s => s.checkBank fun b => firstFailure (checks s b)) fun s => s.onBank (effect s)
    ((∀ b, s.regs.argBank = some b → s.present b = false) → answer = s.refuse .range) ∧
      ∀ b, s.regs.argBank = some b → s.present b = true →
        (∀ r, firstFailure (checks s b) = some r → answer = s.refuse r) ∧
        (firstFailure (checks s b) = none → answer = effect (s.withResult .ok) b) := by
  have taken' : taken.contains s.mode = true := by simpa using hm
  rw [State.command_taken hr taken']
  refine ⟨fun h => ?_, fun b hb hp => ?_⟩
  · rw [State.checkBank, State.argPresent_eq_none h]
  · have named := State.argPresent_eq_some hb hp
    rw [State.checkBank, named]
    refine ⟨fun r hf => by simp only [hf], fun hf => ?_⟩
    simp only [hf]
    exact State.onBank_eq (s := s.withResult .ok) named _

/-- A channel that binds a bank, among all of them. -/
theorem State.bound_iff (s : State) (b : Bank) : (Chan.all.any fun c => (s.chan c).binds b) = true ↔
    ∃ c, ((s.chan c).state = .running ∨ (s.chan c).state = .draining) ∧ (s.chan c).bank = b := by
  have all (c : Chan) : c ∈ Chan.all := by cases c <;> simp [Chan.all]
  simp [List.any_eq_true, all, Channel.binds]

/-- Settles O24: the modes, then the checks of each command in their order, then its effect. -/
theorem bankCommandsSetAndClearTheirFlag : Obligations.BankCommandsSetAndClearTheirFlag := by
  intro s hr
  refine ⟨fun hm => congrArg Host.Outcome.next (State.command_of_not_taken hr (by simpa using hm) _ _),
    fun hm => ⟨congrArg Host.Outcome.next (State.command_of_not_taken hr (by simpa using hm) _ _),
      congrArg Host.Outcome.next (State.command_of_not_taken hr (by simpa using hm) _ _)⟩, fun hm => ?_, fun hm => ?_⟩
  · obtain ⟨range, named⟩ := State.command_onBank hr (taken := [.run, .holdEntry, .hold]) (by simpa using hm)
      (fun s b => [(!(s.bank b).lost, .empty)]) fun s b => s.setBank b { s.bank b with lost := false }
    refine ⟨fun h => congrArg Host.Outcome.next (range h), fun b hb hp => ?_⟩
    obtain ⟨refused, cleared⟩ := named b hb hp
    exact ⟨fun hl => congrArg Host.Outcome.next (refused _ (by rw [hl]; rfl)),
      fun hl => congrArg Host.Outcome.next (cleared (by rw [hl]; rfl))⟩
  · obtain ⟨pauseRange, pauses⟩ := State.command_onBank hr (taken := [.run]) (by simpa using hm)
      (fun s b => [((s.bank b).paused, .busy), (Chan.all.any fun c => (s.chan c).binds b, .bound)])
      fun s b => s.setBank b { s.bank b with paused := true }
    obtain ⟨resumeRange, resumes⟩ := State.command_onBank hr (taken := [.run]) (by simpa using hm)
      (fun s b => [(!(s.bank b).paused, .empty)])
      fun s b => (s.setBank b { s.bank b with paused := false }).reconsider b
    refine ⟨fun h => ⟨congrArg Host.Outcome.next (pauseRange h), congrArg Host.Outcome.next (resumeRange h)⟩, ?_⟩
    intro b hb hp l bound
    obtain ⟨pauseRefused, paused⟩ := pauses b hb hp
    obtain ⟨resumeRefused, resumed⟩ := resumes b hb hp
    have bindings := s.bound_iff b
    refine ⟨fun hl => congrArg Host.Outcome.next (pauseRefused _ (if_pos hl)),
      fun hl hbound => congrArg Host.Outcome.next (pauseRefused _ ?_),
      fun hl hfree => congrArg Host.Outcome.next (paused ?_),
      fun hl => congrArg Host.Outcome.next (resumeRefused _ (by rw [show (s.bank b).paused = false from hl]; rfl)),
      fun hl => ⟨congrArg Host.Outcome.next (resumed (by rw [show (s.bank b).paused = true from hl]; rfl)),
        State.reconsider_choiceOf _ b⟩⟩
    · rw [show (s.bank b).paused = false from hl, bindings.mpr hbound]; rfl
    · rw [show (s.bank b).paused = false from hl, Bool.eq_false_iff.mpr (mt bindings.mp hfree)]; rfl

end Sys2Proof.Machine
end

section
/-! The ends of refreshes and their reports to the Weak Row List: O42. -/

namespace Sys2Proof.Machine

/-! ### The report of a regular refresh (R59 to R61) -/

/-- A row is a spot row of an entry where it lies at half or, at rate 4, at quarter distance from the entry's own (R59). -/
theorem WeakEntry.mem_spotRows (e : WeakEntry) (row : Row) : row ∈ e.spotRows ↔
    row = e.row + 512 ∨ e.rate = .four ∧ (row = e.row + 256 ∨ row = e.row + 768) := by
  unfold WeakEntry.spotRows
  cases e.rate <;> simp [or_left_comm]

/-- The own row of an entry is none of its spot rows. -/
theorem WeakEntry.row_ne_of_due {e : WeakEntry} {b : Bank} {row : Row} {paused : Bool} (h : e.due b row paused = true) :
    e.row ≠ row := by
  have spot : row ∈ e.spotRows := by simp_all [WeakEntry.due]
  rintro rfl
  simp [WeakEntry.mem_spotRows] at spot

/-- What the report of a regular refresh leaves: each entry has taken it, and SPOT_MISS is raised where a pending one is due. -/
theorem State.reportRegular_eq (s : State) (b : Bank) (row : Row) (paused : Bool) :
    s.reportRegular b row paused = { s with
      weak := s.weak.map fun e => e.afterRefresh b row paused
      events := if s.weak.any fun e => e.due b row paused && e.pending then s.events.raise .spotMiss else s.events } := by
  have misses : (s.weak.any fun e => e.due b row paused && e.pending && e.row != row) =
      s.weak.any fun e => e.due b row paused && e.pending := by
    congr 1
    funext e
    cases hd : e.due b row paused
    · rfl
    · simp [WeakEntry.row_ne_of_due hd]
  unfold State.reportRegular State.raiseIf
  rw [misses]
  split <;> rfl

/-- Settles O42: each end with its report, then the ends of refreshes that are not in progress. -/
theorem refreshEndsReportToTheWeakList : Obligations.RefreshEndsReportToTheWeakList := by
  intro b s hr l
  refine ⟨fun row hstate => ?_, fun row hstate => ?_, fun hstate => ?_, fun hstate => ?_⟩
  · intro due
    have due_eq : due = fun e => e.due b row l.paused := by
      funext e
      unfold due WeakEntry.due WeakEntry.spotRows
      cases e.rate <;> simp [Bool.or_assoc, beq_eq_decide]
    clear_value due
    subst due_eq
    intro u
    refine State.operationEnds (u := u) ?_ rfl
    show Host.Outcome.next (s.outOfReset _) = _
    rw [State.outOfReset_of_not hr]
    dsimp only
    rw [hstate]
    dsimp only
    rw [State.reportRegular_eq]
    rfl
  · refine State.operationEnds ?_ rfl
    show Host.Outcome.next (s.outOfReset _) = _
    rw [State.outOfReset_of_not hr]
    dsimp only
    rw [hstate]
    rfl
  · show Host.Outcome.next (s.outOfReset _) = _
    rw [State.outOfReset_of_not hr]
    dsimp only
    split
    · next row h => exact absurd h (hstate row)
    · rfl
  · show Host.Outcome.next (s.outOfReset _) = _
    rw [State.outOfReset_of_not hr]
    dsimp only
    split
    · next row h => exact absurd h (hstate row)
    · rfl

end Sys2Proof.Machine
end

section
/-! The edges of LSYNCn and the source events of the channels: O36. -/

namespace Sys2Proof.Machine

/-! ### Source events (R119) -/

theorem PerChan.set_set {α : Type} (p : PerChan α) (c : Chan) (x y : α) : (p.set c x).set c y = p.set c y := by
  refine PerChan.ext_get fun d => ?_
  by_cases hd : d = c
  · rw [hd, PerChan.get_set_same, PerChan.get_set_same]
  · rw [PerChan.get_set_other _ _ hd, PerChan.get_set_other _ _ hd, PerChan.get_set_other _ _ hd]

theorem State.setChan_setChan (s : State) (c : Chan) (x y : Channel) : (s.setChan c x).setChan c y = s.setChan c y :=
  congrArg (fun chans => { s with chans := chans }) (PerChan.set_set s.chans c x y)

/-- Below the product a source event is counted. -/
theorem State.sourceEvent_below {s : State} {c : Chan} (h : (s.chan c).period + 1 < (s.chan c).product) :
    s.sourceEvent c = s.setChan c { s.chan c with period := (s.chan c).period + 1 } := if_neg (Nat.not_le.mpr h)

/-- A period tick that the sender brings starts the count again and has the steps of a period tick, at any count (entry 2). -/
theorem exec_periodTick_sender {s : State} (hr : s.inReset = false) (c : Chan) :
    exec (.periodTick ⟨c, .sender⟩) s = .next ((s.setChan c { s.chan c with period := 0 }).periodSteps c).reconsiderAll := by
  show Host.Outcome.next (s.outOfReset _) = _
  rw [State.outOfReset_of_not hr]
  exact congrArg Host.Outcome.next (if_pos rfl)

/-- At the product a source event is a period tick (entries 14 and 15). -/
theorem State.sourceEvent_full {s : State} (hr : s.inReset = false) {c : Chan} (h : (s.chan c).product ≤ (s.chan c).period + 1) :
    exec (.periodTick ⟨c, .sender⟩) s = .next (s.sourceEvent c).reconsiderAll := by
  rw [exec_periodTick_sender hr, State.sourceEvent, if_pos h]

/-- A refresh tick is a source event of the channels whose source is REFRESH alone (R39). -/
theorem State.refreshEvent_eq {s : State} {c : Chan} (h : (s.chan c).source = .refresh) : s.refreshEvent c = s.sourceEvent c := if_pos h

/-! ### Edges of LSYNCn (R141) -/

/-- The state with LSYNCn of a channel last sampled high. -/
def State.withLsync (s : State) (c : Chan) : State := s.setChan c { s.chan c with lsyncHigh := true }

theorem State.withLsync_chan (s : State) (c : Chan) : (s.withLsync c).chan c = { s.chan c with lsyncHigh := true } :=
  s.chan_setChan_same c _

/-- The row of an edge is the sample that finds LSYNCn high, with a source event where the channel's source is LSYNC, whatever the last
sample was (entry 19). -/
theorem exec_lsyncRisingEdge {s : State} (hr : s.inReset = false) (c : Chan) : exec (.lsyncRisingEdge c) s =
    .next (if (s.chan c).source = .lsync then ((s.withLsync c).sourceEvent c).reconsiderAll else s.withLsync c) := by
  have low : s.sampleLsync c false = s.setChan c { s.chan c with lsyncHigh := false } := rfl
  have edge : (s.sampleLsync c false).sampleLsync c true = (s.sampleLsync c false).riseLsync c := by
    rw [low]
    simp [State.sampleLsync]
  show Host.Outcome.next (s.outOfReset _) = _
  rw [State.outOfReset_of_not hr, edge, low, State.riseLsync, State.chan_setChan_same, State.setChan_setChan]
  rfl

/-- Settles O36: the edge by the channel's source, below the product and at it, then the source event of a refresh tick. -/
theorem sourceEventsLeadToPeriodTicks : Obligations.SourceEventsLeadToPeriodTicks := by
  intro s c hr x product high
  have edge := exec_lsyncRisingEdge hr c
  have sampled : (s.withLsync c).chan c = { x with lsyncHigh := true } := s.withLsync_chan c
  refine ⟨fun other => ?_, fun lsync full => ?_, fun lsync below => ?_, fun other => if_neg other, fun refresh full => ?_,
    fun refresh below => ?_⟩
  · exact edge.trans (congrArg Host.Outcome.next (if_neg other))
  · rw [edge, if_pos lsync]
    exact (State.sourceEvent_full (s := s.withLsync c) hr (by rw [sampled]; exact full)).symm
  · intro u
    refine ⟨?_, State.reconsiderAll_choicesOf _⟩
    rw [edge, if_pos lsync, State.sourceEvent_below (by rw [sampled]; exact below), sampled, State.withLsync, State.setChan_setChan]
    rfl
  · rw [State.refreshEvent_eq refresh]
    exact State.sourceEvent_full hr full
  · rw [State.refreshEvent_eq refresh]
    exact State.sourceEvent_below below

end Sys2Proof.Machine
end

section
/-! The choice of a CLOSED bank: O50. -/

namespace Sys2Proof.Machine

/-! ### The choice of a CLOSED bank (R80, R81, R83, R84) -/

/-- A CLOSED bank is in the choice (R80). -/
theorem State.choose_closed {s : State} {b : Bank} (hm : s.mode = .run ∨ s.mode = .quiescing ∨ s.mode = .holdEntry)
    (hclosed : (s.bank b).state = .closed) : s.choose b = s.chooseClosed b := by
  have member : s.inChoice b = true := by
    unfold State.inChoice State.ready
    rcases hm with hm | hm | hm <;> simp [hm, hclosed]
  rw [State.choose, if_pos member, if_neg (by rw [hclosed]; nofun)]

theorem State.forcedNeed_iff (s : State) (b : Bank) :
    s.forcedNeed b = true ↔ s.pl ≤ (s.bank b).debt ∧ (s.bank b).paused = false := by
  simp [State.forcedNeed]

/-- The hold sequence of a bank without debt and without a pending spot makes it HELD (R84). -/
theorem State.holdSequence_held {s : State} {b : Bank} (hdebt : (s.bank b).debt = 0) (hspot : s.pendingSpot b = none) :
    s.holdSequence b = s.enterHeld b := by
  rw [State.holdSequence, if_neg (by rw [hdebt]; exact Nat.lt_irrefl 0), hspot]

/-- The report of a held bank leaves the mode while another present bank is not HELD (R179). -/
theorem State.enterHeld_waits {s : State} {b : Bank} (h : ∃ b', b' ≠ b ∧ s.present b' = true ∧ (s.bank b').state ≠ .held) :
    s.enterHeld b = s.setBank b ((s.bank b).enter .held) := by
  refine if_neg fun hall => ?_
  obtain ⟨b', hb, hp, hheld⟩ := h
  exact hheld ((State.allPresent_setBank rfl).mp hall b' hb hp)

/-- The report of the last present bank to be held makes the mode HOLD (R179). -/
theorem State.enterHeld_last {s : State} {b : Bank} (h : ∀ b', b' ≠ b → s.present b' = true → (s.bank b').state = .held) :
    s.enterHeld b = State.raise { s.setBank b ((s.bank b).enter .held) with
      mode := .hold, prechargeAll := false, tickCount := 0 } .modeDone :=
  if_pos ((State.allPresent_setBank rfl).mpr h)

section
variable {s : State} {b : Bank} (hhold : ¬(s.mode = .holdEntry ∧ s.prechargeAll = true))
include hhold

/-- A forced need is served first (R45, R81). -/
theorem State.chooseClosed_forced (hpaused : (s.bank b).paused = false) (hdebt : s.pl ≤ (s.bank b).debt) :
    s.chooseClosed b = s.startRegular b := by
  rw [State.chooseClosed, if_neg hhold, if_pos ((s.forcedNeed_iff b).mpr ⟨hdebt, hpaused⟩)]

/-- Without a forced need a spot need is served (R62, R81). -/
theorem State.chooseClosed_spot (hpaused : (s.bank b).paused = false) (hdebt : (s.bank b).debt < s.pl) {e : WeakEntry}
    (hspot : s.pendingSpot b = some e) : s.chooseClosed b = s.startSpot b e.row := by
  rw [State.chooseClosed, if_neg hhold, if_neg (fun h => Nat.not_le.mpr hdebt ((s.forcedNeed_iff b).mp h).1), hspot, hpaused]

/-- Without a need a CLOSED bank acts on its candidate, or else on its debt (R48, R83). -/
theorem State.chooseClosed_calm (hcalm : (s.bank b).paused = true ∨ ((s.bank b).debt < s.pl ∧ s.pendingSpot b = none)) :
    s.chooseClosed b = ((s.candidate b).bind fun c => s.queue[c.2]?).elim
      (if 0 < (s.bank b).debt ∧ !(s.bank b).paused then s.startRegular b else s) fun r => s.startActivation b r.nextRow := by
  have unforced : ¬s.forcedNeed b = true := by
    rw [s.forcedNeed_iff]
    rintro ⟨hdebt, hpaused⟩
    rcases hcalm with h | h
    · rw [hpaused] at h; cases h
    · exact Nat.not_le.mpr h.1 hdebt
  rw [State.chooseClosed, if_neg hhold, if_neg unforced]
  rcases hcalm with hpaused | ⟨_, hspot⟩
  · rw [hpaused]
    cases s.pendingSpot b <;> cases (s.candidate b).bind fun c => s.queue[c.2]? <;> rfl
  · rw [hspot]
    cases (s.bank b).paused <;> cases (s.candidate b).bind fun c => s.queue[c.2]? <;> rfl

end

/-- Settles O50: the hold sequence in its order, then the needs, the candidate and the debt in theirs. -/
theorem closedBanksChoose : Obligations.ClosedBanksChoose := by
  intro s b hclosed hm l starts holding noSpot calm noCandidate
  have spotless : noSpot ↔ s.pendingSpot b = none := s.pendingSpot_none_iff b
  rw [State.choose_closed hm hclosed]
  refine ⟨fun hhold => ?_, fun hhold => ⟨State.chooseClosed_forced hhold,
    fun hpaused hdebt e he => State.chooseClosed_spot hhold hpaused hdebt ((s.firstPending_iff b e).mp he), ?_⟩⟩
  · rw [State.chooseClosed, if_pos hhold]
    refine ⟨fun hdebt => if_pos hdebt, fun hdebt e he => ?_, fun hdebt hspot => ?_⟩
    · rw [State.holdSequence, if_neg (Nat.not_lt.mpr (Nat.le_of_eq hdebt)), (s.firstPending_iff b e).mp he]
      rfl
    · rw [State.holdSequence_held hdebt (spotless.mp hspot)]
      exact ⟨State.enterHeld_waits, State.enterHeld_last⟩
  · have acts (hcalm : calm) := State.chooseClosed_calm hhold (hcalm.imp_right (And.imp_right spotless.mp))
    refine ⟨fun hcalm line i r hc hi => ?_, fun hcalm none hdebt hpaused => ?_, fun hcalm none idle => ?_⟩
    · rw [acts hcalm, (s.candidate_iff b line i).mpr hc, Option.bind_some, hi]
      rfl
    · rw [acts hcalm, (s.candidate_none_iff b).mpr none]
      exact if_pos ⟨hdebt, by rw [show (s.bank b).paused = false from hpaused]; rfl⟩
    · rw [acts hcalm, (s.candidate_none_iff b).mpr none]
      refine if_neg fun ⟨hdebt, hpaused⟩ => ?_
      rcases idle with hzero | hpause
      · exact Nat.lt_irrefl 0 (hzero ▸ hdebt)
      · rw [show (s.bank b).paused = true from hpause] at hpaused
        cases hpaused

end Sys2Proof.Machine
end

section
/-! The debts at a refresh tick: O37. -/

namespace Sys2Proof.Machine

/-! ### Event flags raised (R163, R166) -/

/-- The event whose flag stands at a bit of an event register. -/
def Event.standingAt : EventReg → Nat → Event
  | .ev0, 0 => .hrdDone
  | .ev0, 1 => .hwrDone
  | .ev0, 2 => .hostErr
  | .ev0, 3 => .dpUnder
  | .ev0, 4 => .dpOver
  | .ev0, 5 => .tblRef
  | .ev0, 6 => .modeDone
  | .ev0, _ => .wakePin
  | .ev1, 0 => .late .c0
  | .ev1, 1 => .late .c1
  | .ev1, 2 => .late .c2
  | .ev1, 3 => .slip .c0
  | .ev1, 4 => .slip .c1
  | .ev1, 5 => .slip .c2
  | .ev1, 6 => .chFault
  | .ev1, _ => .chIdle
  | .ev2, 0 => .fltNew
  | .ev2, 1 => .fltOvf
  | .ev2, 2 => .bankLost
  | .ev2, 3 => .spotMiss
  | .ev2, 4 => .laneStarve
  | .ev2, 5 => .laneBlock
  | .ev2, 6 => .pauseDebt
  | .ev2, _ => .cmdRef

theorem Event.standingAt_place (e : Event) : Event.standingAt e.reg e.bit = e := by
  cases e with
  | late c | slip c => cases c <;> rfl
  | _ => rfl

theorem Event.bit_lt (e : Event) : e.bit < 8 := by
  cases e with
  | late c | slip c => cases c <;> decide
  | _ => decide

theorem EventRegs.flags_setFlags (r : EventRegs) (reg reg' : EventReg) (v : Byte) :
    (r.setFlags reg v).flags reg' = if reg' = reg then v else r.flags reg' := by
  cases reg <;> cases reg' <;> rfl

/-- A raised flag is set, and every other flag is as before. -/
theorem EventRegs.isSet_raise (r : EventRegs) (e e' : Event) : (r.raise e).isSet e' = true ↔ e' = e ∨ r.isSet e' = true := by
  have same : e' = e ↔ e'.reg = e.reg ∧ e'.bit = e.bit :=
    ⟨fun h => h ▸ ⟨rfl, rfl⟩, fun ⟨hreg, hbit⟩ => by rw [← e'.standingAt_place, hreg, hbit, e.standingAt_place]⟩
  rw [same]
  unfold EventRegs.isSet EventRegs.raise
  rw [EventRegs.flags_setFlags]
  by_cases hreg : e'.reg = e.reg
  · have := e.bit_lt
    rw [if_pos hreg, hreg, BitVec.getLsbD_or, Event.mask, BitVec.getLsbD_twoPow]
    simp [this, e'.bit_lt, eq_comm (a := e.bit), or_comm]
  · simp [hreg]

/-- The enables of the event flags. -/
def EventRegs.enables (r : EventRegs) : Byte × Byte × Byte := (r.en0, r.en1, r.en2)

theorem EventRegs.raise_enables (r : EventRegs) (e : Event) : (r.raise e).enables = r.enables := by
  unfold EventRegs.raise EventRegs.setFlags
  cases e.reg <;> rfl

theorem EventRegs.eq_of_enables {r r' : EventRegs} (h : r.enables = r'.enables) :
    r = { r with en0 := r'.en0, en1 := r'.en1, en2 := r'.en2 } := by
  obtain ⟨h0, h1, h2⟩ : r.en0 = r'.en0 ∧ r.en1 = r'.en1 ∧ r.en2 = r'.en2 := by simpa [EventRegs.enables] using h
  rw [← h0, ← h1, ← h2]

/-- Several flags raised one after the other. -/
def EventRegs.raiseAll (r : EventRegs) (es : List Event) : EventRegs := es.foldl EventRegs.raise r

theorem EventRegs.isSet_raiseAll (r : EventRegs) (es : List Event) (e : Event) :
    (r.raiseAll es).isSet e = true ↔ e ∈ es ∨ r.isSet e = true := by
  unfold EventRegs.raiseAll
  induction es generalizing r with
  | nil => simp
  | cons e' es ih => rw [List.foldl_cons, ih, EventRegs.isSet_raise, List.mem_cons, ← or_assoc, or_comm (a := e ∈ es)]

theorem EventRegs.raiseAll_enables (r : EventRegs) (es : List Event) : (r.raiseAll es).enables = r.enables := by
  unfold EventRegs.raiseAll
  induction es generalizing r with
  | nil => rfl
  | cons e es ih => rw [List.foldl_cons, ih, EventRegs.raise_enables]

/-! ### Fault reports (R158) -/

/-- The flags that a report to a fault list raises. -/
def faultFlags (fs : List FaultRecord) (f : FaultRecord) : List Event :=
  if fs.any f.same then [] else if fs.length < 8 then [.fltNew] else [.fltOvf]

theorem State.recordFault_events (s : State) (f : FaultRecord) :
    (s.recordFault f).events = s.events.raiseAll (faultFlags s.faults f) := by
  unfold State.recordFault faultFlags
  split
  · rfl
  · split <;> rfl

/-- What a report leaves of the fault list and FLTLOST depends on these alone. -/
theorem State.recordFault_agree {s t : State} (faults : t.faults = s.faults) (lost : t.fltLost = s.fltLost) (f : FaultRecord) :
    (t.recordFault f).faults = (s.recordFault f).faults ∧ (t.recordFault f).fltLost = (s.recordFault f).fltLost := by
  unfold State.recordFault
  rw [faults, lost]
  split
  · exact ⟨rfl, rfl⟩
  · split <;> exact ⟨rfl, rfl⟩

/-! ### A tick at one bank (R40, R41, R54, R155) -/

/-- Whether a tick finds a bank that it reaches at debt 15. -/
def BankLane.overdue (l : BankLane) : Bool := l.state.takesTick && decide (15 ≤ l.debt)

/-- Whether a tick makes a bank lost that was not. -/
def BankLane.newlyLost (l : BankLane) : Bool := l.overdue && !l.lost

/-- Whether a tick brings the debt of a paused bank to the pause limit. -/
def BankLane.meetsLimit (l : BankLane) (pl : Nat) : Bool :=
  l.state.takesTick && decide (l.debt < 15) && (l.paused && decide (l.debt + 1 = pl))

theorem BankLane.meetsLimit_iff (l : BankLane) (pl : Nat) : l.meetsLimit pl = true ↔
    l.state.takesTick = true ∧ l.paused = true ∧ l.debt < 15 ∧ l.debt + 1 = pl := by
  simp [BankLane.meetsLimit, and_assoc, and_left_comm]

/-- The lane of a bank after a tick. -/
def BankLane.ticked (l : BankLane) : BankLane :=
  if l.state.takesTick then if l.debt < 15 then { l with debt := l.debt + 1 } else { l with lost := true } else l

/-- The flags that a tick at a bank raises. -/
def State.tickFlags (s : State) (b : Bank) : List Event :=
  let loss : List Event := if (s.bank b).newlyLost then faultFlags s.faults (lostReport b) ++ [.bankLost] else []
  let limit : List Event := if (s.bank b).meetsLimit s.pl then [.pauseDebt] else []
  loss ++ limit

theorem State.mem_tickFlags (s : State) (b : Bank) (e : Event) : e ∈ s.tickFlags b ↔
    ((s.bank b).newlyLost = true ∧ e ∈ faultFlags s.faults (lostReport b)) ∨
      (e = .bankLost ∧ (s.bank b).newlyLost = true) ∨ (e = .pauseDebt ∧ (s.bank b).meetsLimit s.pl = true) := by
  unfold State.tickFlags
  cases (s.bank b).newlyLost <;> cases (s.bank b).meetsLimit s.pl <;> simp

theorem PerBank.set_get {α : Type} (p : PerBank α) (b : Bank) : p.set b (p.get b) = p := by cases b <;> rfl

/-- What a tick at one bank does: its lane, its words where it is overdue, the report where it is newly lost, and the flags. -/
theorem State.raiseDebt_eq (s : State) (b : Bank) :
    s.raiseDebt b = { s with
      banks := s.banks.set b (s.bank b).ticked
      store := if (s.bank b).overdue then s.store.lose b else s.store
      faults := (s.recordFaultIf (s.bank b).newlyLost (lostReport b)).faults
      fltLost := (s.recordFaultIf (s.bank b).newlyLost (lostReport b)).fltLost
      events := s.events.raiseAll (s.tickFlags b) } := by
  have stays : s.banks.set b (s.bank b) = s.banks := PerBank.set_get s.banks b
  unfold State.raiseDebt State.tickFlags BankLane.meetsLimit BankLane.newlyLost BankLane.overdue BankLane.ticked
  cases htakes : (s.bank b).state.takesTick
  · simp [htakes, stays, EventRegs.raiseAll]
  · by_cases hdebt : (s.bank b).debt < 15
    · have below : decide (15 ≤ (s.bank b).debt) = false := by simpa using hdebt
      simp only [htakes, hdebt, below]
      cases hlimit : (s.bank b).paused && decide ((s.bank b).debt + 1 = s.pl) <;> rfl
    · have full : decide (15 ≤ (s.bank b).debt) = true := by simpa using hdebt
      simp only [htakes, hdebt, full]
      cases hlost : (s.bank b).lost
      · obtain ⟨faults, fltLost⟩ := State.recordFault_agree (s := s)
          (t := State.setBank { s with store := s.store.lose b } b { s.bank b with lost := true }) rfl rfl (lostReport b)
        simp only [Bool.not_true, Bool.false_eq_true, if_false]
        rw [State.recordFault_frame, State.recordFault_events, faults, fltLost]
        simp [EventRegs.raiseAll, State.raise]
      · have lane : { s.bank b with lost := true } = s.bank b := by rw [← hlost]
        simp [lane, stays, EventRegs.raiseAll]

/-! ### A tick at several banks -/

/-- A report made if its cause is there, to the same fault list. -/
theorem State.recordFaultIf_agree {s t : State} (faults : t.faults = s.faults) (lost : t.fltLost = s.fltLost) (cause : Bool)
    (f : FaultRecord) : (t.recordFaultIf cause f).faults = (s.recordFaultIf cause f).faults ∧
      (t.recordFaultIf cause f).fltLost = (s.recordFaultIf cause f).fltLost := by
  cases cause
  · exact ⟨faults, lost⟩
  · exact State.recordFault_agree faults lost f

/-- A flag after a report made if its cause is there. -/
theorem State.recordFaultIf_isSet (s : State) (cause : Bool) (f : FaultRecord) (e : Event) :
    (s.recordFaultIf cause f).events.isSet e = true ↔ (cause = true ∧ e ∈ faultFlags s.faults f) ∨ s.events.isSet e = true := by
  cases cause
  · simp
  · simp [State.recordFault_events, EventRegs.isSet_raiseAll]

/-- The reports of the banks that a tick makes newly lost, in the order of the list (R155). -/
def State.lossesReported (s : State) (bs : List Bank) : State :=
  bs.foldl (fun v b => v.recordFaultIf (s.bank b).newlyLost (lostReport b)) s

theorem State.lossesReported_concat (s : State) (bs : List Bank) (b : Bank) : s.lossesReported (bs ++ [b]) =
    (s.lossesReported bs).recordFaultIf (s.bank b).newlyLost (lostReport b) := by
  simp [State.lossesReported, List.foldl_append]

/-- `u` is `s` once a tick has started the timer again and reached the banks of a list. -/
structure State.DebtsRaised (s : State) (bs : List Bank) (u : State) : Prop where
  frame : u = { s with
    tickCount := 0, banks := u.banks, store := u.store, faults := (s.lossesReported bs).faults
    fltLost := (s.lossesReported bs).fltLost, events := u.events }
  enables : u.events.enables = s.events.enables
  lanes : ∀ b, u.bank b = if b ∈ bs then (s.bank b).ticked else s.bank b
  words : ∀ b row col, (s.bank b).overdue = false → u.store.read b row col = s.store.read b row col
  flags : ∀ e, u.events.isSet e = true ↔ (s.lossesReported bs).events.isSet e = true ∨
    (e = .bankLost ∧ ∃ b ∈ bs, (s.bank b).newlyLost = true) ∨ (e = .pauseDebt ∧ ∃ b ∈ bs, (s.bank b).meetsLimit s.pl = true)

theorem State.debtsRaised_nil (s : State) : s.DebtsRaised [] { s with tickCount := 0 } :=
  ⟨rfl, rfl, fun _ => rfl, fun _ _ _ _ => rfl, fun e => by simp [State.lossesReported]⟩

/-- The tick reaches one bank more. -/
theorem State.DebtsRaised.concat {s u : State} {bs : List Bank} (h : s.DebtsRaised bs u) {b : Bank} (new : b ∉ bs) :
    s.DebtsRaised (bs ++ [b]) (u.raiseDebt b) := by
  have after := u.raiseDebt_eq b
  have lane : u.bank b = s.bank b := (h.lanes b).trans (if_neg new)
  have faults : u.faults = (s.lossesReported bs).faults := by rw [h.frame]
  have lost : u.fltLost = (s.lossesReported bs).fltLost := by rw [h.frame]
  have limit : u.pl = s.pl := by rw [h.frame]; rfl
  obtain ⟨reported, overflowed⟩ := State.recordFaultIf_agree faults lost (s.bank b).newlyLost (lostReport b)
  have others (banks : PerBank BankLane) (store : Store) (fs : List FaultRecord) (n : Nat) (ev : EventRegs) :
      ({ u with banks := banks, store := store, faults := fs, fltLost := n, events := ev } : State) =
        { s with tickCount := 0, banks := banks, store := store, faults := fs, fltLost := n, events := ev } := by rw [h.frame]
  rw [others, lane, reported, overflowed, ← State.lossesReported_concat] at after
  rw [after]
  refine ⟨rfl, (EventRegs.raiseAll_enables ..).trans h.enables, fun b' => ?_, fun b' row col hwords => ?_, fun e => ?_⟩
  · show (u.banks.set b _).get b' = _
    by_cases hb : b' = b
    · rw [hb, PerBank.get_set_same, if_pos (by simp)]
    · rw [PerBank.get_set_other _ _ hb]
      exact (h.lanes b').trans (by simp [hb])
  · show Store.read (if _ then _ else _) b' row col = _
    rw [← h.words b' row col hwords]
    split
    · next overdue =>
      refine Store.read_lose_other _ row col ?_
      rintro rfl
      rw [overdue] at hwords
      cases hwords
    · rfl
  · show EventRegs.isSet (u.events.raiseAll _) e = true ↔ _
    rw [EventRegs.isSet_raiseAll, h.flags, State.lossesReported_concat, State.recordFaultIf_isSet, State.mem_tickFlags, lane,
      faults, limit]
    have oneMore (p : Bank → Bool) : (∃ b' ∈ bs ++ [b], p b' = true) ↔ (∃ b' ∈ bs, p b' = true) ∨ p b = true := by
      simp [or_and_right, exists_or]
    rw [oneMore fun b' => (s.bank b').newlyLost, oneMore fun b' => (s.bank b').meetsLimit s.pl]
    grind

/-! ### TICK (R38, R39) -/

/-- A tick starts the timer again and reaches every bank, in RUN, QUIESCING and HOLD_ENTRY (R39, R40). -/
theorem State.raiseDebts_debtsRaised {s : State} (hm : s.mode = .run ∨ s.mode = .quiescing ∨ s.mode = .holdEntry) :
    s.DebtsRaised Bank.all (State.raiseDebts { s with tickCount := 0 }) := by
  rw [State.raiseDebts, if_pos hm]
  exact (((s.debtsRaised_nil.concat (b := .b0) nofun).concat (b := .b1) (by simp)).concat (b := .b2) (by simp)).concat (by simp)

/-- A tick occurs where the sender brings it, or where its count still stands at the limit (R38, R56, R179; entry 2). -/
theorem tickOccurs_iff (origin : TickOrigin) (limit count : Nat) :
    tickOccurs origin limit count = true ↔ origin = .sender ∨ limit ≤ count := by
  cases origin <;> simp [tickOccurs]

/-- Without a tick the row changes nothing: the timer stopped, or its count discarded. -/
theorem execTick_none {s : State} (hr : s.inReset = false) (t : RefreshTick)
    (h : s.mode.timerRuns = false ∨ tickOccurs t.origin s.ri s.tickCount = false) : exec (.tick t) s = .next s := by
  show Host.Outcome.next (s.outOfReset _) = _
  rw [State.outOfReset_of_not hr]
  refine congrArg Host.Outcome.next (if_neg ?_)
  rcases h with h | h <;> simp [h]

/-- A tick where the debts are counted: the debts, then the source events, then the choices of the banks (R39; entry 41). -/
theorem execTick_debts {s : State} (hr : s.inReset = false) {order : ChanOrder} {origin : TickOrigin}
    (hm : s.mode = .run ∨ s.mode = .quiescing ∨ s.mode = .holdEntry) (occurs : origin = .sender ∨ s.ri ≤ s.tickCount) :
    exec (.tick ⟨order, origin⟩) s =
      .next (order.toList.foldl State.refreshEvent (State.raiseDebts { s with tickCount := 0 })).reconsiderAll := by
  have taken : (s.mode.timerRuns && tickOccurs origin s.ri s.tickCount) = true := by
    rw [(tickOccurs_iff origin _ _).mpr occurs]
    rcases hm with hm | hm | hm <;> rw [hm] <;> rfl
  have unsettled : ¬(s.mode = .warming ∨ s.mode = .waking) := by
    rcases hm with hm | hm | hm <;> rw [hm] <;> decide
  show Host.Outcome.next (s.outOfReset _) = _
  rw [State.outOfReset_of_not hr, if_pos taken]
  dsimp only
  rw [if_neg unsettled]

/-- Settles O37: the ticks that do not occur, then the tick at the debts of all banks. -/
theorem ticksRaiseTheDebts : Obligations.TicksRaiseTheDebts := by
  intro order origin s hr
  refine ⟨fun hm => execTick_none hr _ (.inl (by rcases hm with hm | hm <;> rw [hm] <;> rfl)), fun counter early => ?_,
    fun hm occurs => ?_⟩
  · refine execTick_none hr _ (.inr (Bool.eq_false_iff.mpr fun h => ?_))
    rcases (tickOccurs_iff ..).mp h with sender | late
    · rw [show origin = .counter from counter] at sender
      cases sender
    · exact Nat.not_le.mpr early late
  · intro reached
    -- the banks that a tick reaches, by the model's own test, in all that follows
    have reached_eq : reached = fun b => (s.bank b).state.takesTick := rfl
    clear_value reached
    subst reached_eq
    intro newlyLost report reported
    have raised := State.raiseDebts_debtsRaised hm
    have tick := execTick_debts hr (order := order) hm occurs
    generalize State.raiseDebts { s with tickCount := 0 } = u at raised tick
    have all (b : Bank) : b ∈ Bank.all := by cases b <;> simp [Bank.all]
    refine ⟨u, tick, ?_, fun b => ?_, fun b row col hwords => raised.words b row col ?_, fun e => ?_⟩
    · have frame := raised.frame
      rw [EventRegs.eq_of_enables raised.enables] at frame
      exact frame
    · rw [raised.lanes, if_pos (all b)]
      rfl
    · rcases hwords with unreached | below
      · simp [BankLane.overdue, unreached]
      · simp [BankLane.overdue, below]
    · rw [raised.flags]
      simp only [all, true_and, BankLane.meetsLimit_iff]
      rfl

end Sys2Proof.Machine
end

section
/-! The commands that edit the Weak Row List, WEAK_ADD, WEAK_REMOVE and WEAK_CLEAR: O22 and O23. -/

namespace Sys2Proof.Machine

section
variable {s : State}

/-! ### A command in a mode that takes it (R187) -/

/-- The first check that fails is the answer of a command. -/
theorem State.command_check_fails (hr : s.inReset = false) {taken : List Mode} (hm : s.mode ∈ taken) {q r : Result}
    {check : State → Option Result} (effect : State → State) (hc : check s = some r) :
    s.command taken q check effect = s.refuse r := by
  rw [State.command_taken hr (by simpa using hm), hc]

/-- A command that fails no check has its effect behind the result OK. -/
theorem State.command_checks_pass (hr : s.inReset = false) {taken : List Mode} (hm : s.mode ∈ taken) {q : Result}
    {check : State → Option Result} (effect : State → State) (hc : check s = none) :
    s.command taken q check effect = effect (s.withResult .ok) := by
  rw [State.command_taken hr (by simpa using hm), hc]
  rfl

/-! ### The place of a new entry (R57, R64) -/

/-- The order of the list, by bank and then by row. -/
theorem WeakEntry.before_iff_bank_eq (e f : WeakEntry) :
    e.before f = true ↔ e.bank.num < f.bank.num ∨ (e.bank = f.bank ∧ e.row.toNat < f.row.toNat) := by
  simp [WeakEntry.before]

/-- A new entry divides the list in front of the first entry that it sorts before. -/
theorem insertWeak_splits (e : WeakEntry) (ws : List WeakEntry) :
    ∃ before after, ws = before ++ after ∧ insertWeak e ws = before ++ e :: after ∧
      (∀ f ∈ before, ¬e.before f = true) ∧ ∀ f, after.head? = some f → e.before f = true := by
  induction ws with
  | nil => exact ⟨[], [], rfl, rfl, by simp, by simp⟩
  | cons f rest ih =>
    by_cases hf : e.before f = true
    · exact ⟨[], f :: rest, rfl, by rw [insertWeak, if_pos hf, List.nil_append], by simp, by simpa using hf⟩
    · obtain ⟨before, after, split, inserted, passed, stops⟩ := ih
      refine ⟨f :: before, after, by rw [split, List.cons_append], ?_, List.forall_mem_cons.mpr ⟨hf, passed⟩, stops⟩
      rw [insertWeak, if_neg hf, inserted, List.cons_append]

/-! ### WEAK_ADD (R64) -/

theorem State.weakHolds_iff (s : State) (b : Bank) (row : Nat) :
    s.weakHolds b row = true ↔ ∃ e ∈ s.weak, e.bank = b ∧ e.row.toNat = row := by
  simp [State.weakHolds]

/-- The operands fail the range check by the bank, by the row or by the rate. -/
theorem State.weakOperand_eq_none
    (h : (∀ b, s.regs.argBank = some b → s.present b = false) ∨ 1023 < s.regs.argRow ∨ s.regs.argRate = none) :
    s.weakOperand = none := by
  unfold State.weakOperand
  split
  next b rate hb hrate =>
    rcases h with absent | far | unrated
    · rw [State.argPresent_eq_none absent] at hb; cases hb
    · exact if_neg (Nat.not_le.mpr far)
    · rw [unrated] at hrate; cases hrate
  next => rfl

theorem State.weakOperand_eq_some {b : Bank} {rate : WeakRate} (hb : s.regs.argBank = some b) (hp : s.present b = true)
    (hrow : s.regs.argRow ≤ 1023) (hrate : s.regs.argRate = some rate) :
    s.weakOperand = some ⟨b, BitVec.ofNat 10 s.regs.argRow, rate, false, 0⟩ := by
  simp only [State.weakOperand, State.argPresent_eq_some hb hp, hrate, if_pos hrow]

/-- RANGE, where the operands name no entry. -/
theorem execWeakAdd_range (hr : s.inReset = false) (hm : s.mode ∈ [Mode.setup, .run]) (hop : s.weakOperand = none) :
    execWeakAdd s = .next (s.refuse .range) :=
  congrArg Host.Outcome.next (State.command_check_fails hr hm _ (by simp only [hop]))

/-- The checks of an entry behind RANGE, in their order, and the list with the entry where none fails. -/
theorem execWeakAdd_operand (hr : s.inReset = false) (hm : s.mode ∈ [Mode.setup, .run]) {e : WeakEntry}
    (hop : s.weakOperand = some e) :
    (s.weakHolds e.bank e.row.toNat = true → execWeakAdd s = .next (s.refuse .duplicate)) ∧
    (s.weakHolds e.bank e.row.toNat = false → 16 ≤ s.weak.length → execWeakAdd s = .next (s.refuse .listfull)) ∧
    (s.weakHolds e.bank e.row.toNat = false → s.weak.length < 16 →
      execWeakAdd s = .next { s.withResult .ok with weak := insertWeak e s.weak }) := by
  refine ⟨fun held => ?_, fun new full => ?_, fun new room => ?_⟩
  · exact congrArg Host.Outcome.next (State.command_check_fails hr hm _ (by simp [hop, firstFailure, held]))
  · exact congrArg Host.Outcome.next (State.command_check_fails hr hm _ (by simp [hop, firstFailure, new, full]))
  · have operand : (s.withResult .ok).weakOperand = some e := hop
    refine congrArg Host.Outcome.next ((State.command_checks_pass hr hm _ ?_).trans ?_)
    · simp [hop, firstFailure, new, Nat.not_le.mpr room]
    · simp only [operand]
      rfl

/-! ### WEAK_REMOVE and WEAK_CLEAR (R65, R66) -/

theorem HostRegs.namesEntry_iff (r : HostRegs) (e : WeakEntry) :
    r.namesEntry e = true ↔ r.argBank = some e.bank ∧ r.argRow = e.row.toNat := by
  simp [HostRegs.namesEntry]

/-- NOTFOUND, where ARG0 to ARG2 name no entry. -/
theorem execWeakRemove_notfound (hr : s.inReset = false) (hm : s.mode ∈ [Mode.setup, .run])
    (h : s.weak.any s.regs.namesEntry = false) : execWeakRemove s = .next (s.refuse .notfound) :=
  congrArg Host.Outcome.next (State.command_check_fails hr hm _ (by rw [h]; rfl))

theorem execWeakRemove_found (hr : s.inReset = false) (hm : s.mode ∈ [Mode.setup, .run])
    (h : s.weak.any s.regs.namesEntry = true) :
    execWeakRemove s = .next { s.withResult .ok with weak := s.weak.filter fun e => !s.regs.namesEntry e } :=
  congrArg Host.Outcome.next (State.command_checks_pass hr hm _ (by rw [h]; rfl))

theorem execWeakClear_eq (hr : s.inReset = false) (hm : s.mode ∈ [Mode.setup, .run]) :
    execWeakClear s = .next { s.withResult .ok with weak := [] } :=
  congrArg Host.Outcome.next (State.command_checks_pass hr hm _ rfl)

end

/-- Settles O22: the modes, the checks of R64 in their order, and the place at which the new entry divides the list. -/
theorem weakAddInsertsInOrder : Obligations.WeakAddInsertsInOrder := by
  intro s hr
  refine ⟨fun hm => congrArg Host.Outcome.next (State.command_of_not_taken hr (by simpa using hm) _ _), fun hm => ?_⟩
  have taken : s.mode ∈ [Mode.setup, .run] := by simpa using hm
  refine ⟨fun h => execWeakAdd_range hr taken (State.weakOperand_eq_none h), fun b rate hb hp hrow hrate => ?_⟩
  intro held
  obtain ⟨duplicate, listfull, added⟩ := execWeakAdd_operand hr taken (State.weakOperand_eq_some hb hp hrow hrate)
  have row : (BitVec.ofNat 10 s.regs.argRow).toNat = s.regs.argRow := by
    rw [BitVec.toNat_ofNat]
    omega
  rw [row] at duplicate listfull added
  have held_iff : s.weakHolds b s.regs.argRow = true ↔ held := s.weakHolds_iff b s.regs.argRow
  have new (h : ¬held) : s.weakHolds b s.regs.argRow = false := Bool.eq_false_iff.mpr (mt held_iff.mp h)
  refine ⟨fun h => duplicate (held_iff.mpr h), fun h => listfull (new h), fun h room => ?_⟩
  obtain ⟨before, after, split, inserted, passed, stops⟩ :=
    insertWeak_splits ⟨b, BitVec.ofNat 10 s.regs.argRow, rate, false, 0⟩ s.weak
  simp only [WeakEntry.before_iff_bank_eq, row] at passed stops
  exact ⟨before, after, split, inserted ▸ added (new h) room, passed, stops⟩

/-- Settles O23: the modes, then the search of R65, and the list without the entries named; R66 keeps none. -/
theorem weakRemoveAndClearEditTheListAlone : Obligations.WeakRemoveAndClearEditTheListAlone := by
  intro s hr
  refine ⟨fun hm => ⟨congrArg Host.Outcome.next (State.command_of_not_taken hr (by simpa using hm) _ _),
    congrArg Host.Outcome.next (State.command_of_not_taken hr (by simpa using hm) _ _)⟩, fun hm => ?_⟩
  have taken : s.mode ∈ [Mode.setup, .run] := by simpa using hm
  intro named
  have named_iff (e : WeakEntry) : s.regs.namesEntry e = true ↔ named e := s.regs.namesEntry_iff e
  refine ⟨fun missing => execWeakRemove_notfound hr taken ?_,
    fun found => ⟨_, execWeakRemove_found hr taken ?_, List.filter_sublist, fun e => ?_⟩, execWeakClear_eq hr taken⟩
  · exact List.any_eq_false.mpr fun e he => mt (named_iff e).mp (missing e he)
  · simpa only [List.any_eq_true, named_iff] using found
  · simp only [List.mem_filter, Bool.not_eq_true', ← Bool.not_eq_true, named_iff]

end Sys2Proof.Machine
end

section
/-! The limits of the queue through every step, and the candidate of a bank: O57 and O49. -/

namespace Sys2Proof.Machine

/-- Settles O57: every kind of change that the steps are made of keeps the limits. -/
theorem everyStepKeepsTheQueueLimits : Obligations.EveryStepKeepsTheQueueLimits := fun _ _ hs h =>
  step_keeps (P := fun s => s.queueLimits = true) Change.queueLimits hs h

/-- Settles O49, by the searches of the lines of R82. -/
theorem candidatesFollowTheLines : Obligations.CandidatesFollowTheLines := fun s b line i => s.candidate_iff b line i

end Sys2Proof.Machine
end

section
/-! TRAFFIC_RESET: what is cleared, what waits for the record in flight, and the end of the quiesce: O14. -/

namespace Sys2Proof.Machine

/-! ### Strobes through a traffic reset (R145) -/

/-- A strobe through the reset of one channel's traffic: a DEPOSIT strobe of the channel loses its word if the FIFO is flushed. -/
def Strobe.afterChanReset (c : Chan) (flush : Bool) : Strobe → Strobe
  | .deposit d flushed => .deposit d (flushed || (d == c && flush))
  | .fetch d w => .fetch d w

/-- A strobe through a traffic reset: a DEPOSIT strobe loses its word unless a record of its channel is in flight. -/
def State.strobeAfterReset (s : State) : Strobe → Strobe
  | .deposit c flushed => .deposit c (flushed || !s.chanInFlight c)
  | .fetch c w => .fetch c w

theorem State.resetChan_strobe_eq (s : State) (c : Chan) :
    (s.resetChan c).strobe = s.strobe.map (Strobe.afterChanReset c !s.chanInFlight c) := by
  unfold State.resetChan
  split
  · next flight =>
    have kept : Strobe.afterChanReset c false = id := funext fun st => by cases st <;> simp [Strobe.afterChanReset]
    rw [flight, Bool.not_true, kept, Option.map_id]
    rfl
  · next flight =>
    have lost : Strobe.afterChanReset c true = Strobe.afterFlush c :=
      funext fun st => by cases st <;> simp [Strobe.afterChanReset, Strobe.afterFlush]
    rw [Bool.eq_false_iff.mpr flight, Bool.not_false, lost]
    rfl

theorem State.chanInFlight_resetChan (s : State) (c d : Chan) : (s.resetChan c).chanInFlight d = s.chanInFlight d := by
  unfold State.chanInFlight
  rw [State.resetChan_queue]

/-- The resets of the three channels leave a strobe by what is in flight of its own channel. -/
theorem State.clearTraffic_strobe_eq (s : State) : s.clearTraffic.strobe = s.strobe.map s.strobeAfterReset := by
  show (((s.resetChan .c0).resetChan .c1).resetChan .c2).strobe = _
  simp only [State.resetChan_strobe_eq, State.chanInFlight_resetChan, Option.map_map]
  congr 1
  funext st
  cases st with
  | fetch c w => rfl
  | deposit c flushed => cases c <;> simp [Strobe.afterChanReset, State.strobeAfterReset, beq_eq_decide]

/-! ### The traffic reset as a whole (R93, R94, R111, R135, R151, R173) -/

/-- The traffic reset at every item that it changes: each channel by what its record in flight still needs. -/
theorem State.clearTraffic_eq (s : State) :
    s.clearTraffic = { s with
      mode := .quiescing, prechargeAll := true, queue := s.queue.filter (·.state == .active), host := s.resetHost
      chans := s.chans.map fun c _ => s.afterTrafficReset c, lanePtr := .c0, strobe := s.strobe.map s.strobeAfterReset } := by
  have chans : s.clearTraffic.chans = s.chans.map fun c _ => s.afterTrafficReset c :=
    PerChan.ext_get fun c => by rw [PerChan.get_map]; exact s.clearTraffic_chan_eq c
  rw [State.clearTraffic_frame, chans, State.clearTraffic_strobe_eq]

/-- TRAFFIC_RESET in RUN is taken without a check of its own (R173). -/
theorem execTrafficReset_run {s : State} (hr : s.inReset = false) (hm : s.mode = .run) :
    execTrafficReset s = .next (s.withResult .ok).clearTraffic.quiesceTest.reconsiderAll :=
  congrArg Host.Outcome.next (State.command_checks_pass hr (List.mem_singleton.mpr hm) _ rfl)

/-- In QUIESCING, the test of R176 and then the choices of the banks end in RUN exactly where the test finds the quiesce over. -/
theorem State.quiesced_mode {u : State} (hm : u.mode = .quiescing) :
    u.quiesceTest.reconsiderAll.mode = .run ↔ u.QuiesceOver := by
  rw [State.reconsiderAll_mode _ (u.quiesceTest_ne hm)]
  exact u.quiesceTest_mode hm

/-- Settles O14: the state cleared, the test of R176 and the choices, and where the test passes. -/
theorem trafficResetClearsTheTraffic : Obligations.TrafficResetClearsTheTraffic := by
  intro s hr hm hostFlight chanFlight u t
  have cleared : (s.withResult .ok).clearTraffic = u := (s.withResult .ok).clearTraffic_eq
  refine ⟨?_, u.quiesceTest_choicesOf.1.choices u.quiesceTest_choicesOf.2 (State.reconsiderAll_choicesOf _), ?_⟩
  · exact (execTrafficReset_run hr hm).trans (by rw [cleared])
  · rw [s.pathFree_iff]
    exact State.quiesced_mode (u := u) rfl

end Sys2Proof.Machine
end

section
/-! PERIOD_TICK: aging, the late limit, a slip with its reason, or a post: O39. -/

namespace Sys2Proof.Machine

/-! ### What a period tick changes -/

/-- The state with another queue, one other channel and other event flags: all that the steps of a period tick change. -/
def State.ticked (s : State) (c : Chan) (q : List Record) (x : Channel) (e : EventRegs) : State :=
  { s with queue := q, chans := s.chans.set c x, events := e }

section
variable (s : State) (c : Chan) (q : List Record) (x : Channel) (e : EventRegs)

@[simp] theorem State.ticked_chan : (s.ticked c q x e).chan c = x := PerChan.get_set_same ..

/-- The last change of the channel counts. -/
@[simp] theorem State.ticked_ticked (q' : List Record) (x' : Channel) (e' : EventRegs) :
    (s.ticked c q x e).ticked c q' x' e' = s.ticked c q' x' e' := by
  simp only [State.ticked, PerChan.set_set]

theorem State.setChan_eq_ticked : s.setChan c x = s.ticked c s.queue x s.events := rfl

theorem State.slipChan_eq_ticked (why : SlipReason) :
    s.slipChan c why = s.ticked c s.queue { s.chan c with slips := min 255 ((s.chan c).slips + 1), lastSlip := why }
      (s.events.raise (.slip c)) := rfl

theorem State.postBurst_eq_ticked :
    s.postBurst c = s.ticked c (s.queue ++ [(s.chan c).burstRecord c]) (s.chan c).afterPost s.events := rfl

end

/-- A channel loses its WAITING records, with what they reserved and claimed, and is FAULTED (R91, R125). -/
theorem State.faultChan_eq_ticked (s : State) (c : Chan) :
    let gone := s.queue.filter (Record.removable c)
    s.faultChan c = s.ticked c (s.queue.filter fun r => !Record.removable c r)
      { s.chan c with
        state := .faulted, reserved := (s.chan c).reserved - countsOf .read gone
        claimed := (s.chan c).claimed - countsOf .write gone }
      (s.events.raise .chFault) := by
  intro gone
  have withdrawn : s.withdrawChan c = s.ticked c (s.queue.filter fun r => !Record.removable c r)
      { s.chan c with
        reserved := (s.chan c).reserved - countsOf .read gone, claimed := (s.chan c).claimed - countsOf .write gone }
      s.events := rfl
  have faulted : s.faultChan c = ((s.withdrawChan c).setChan c { (s.withdrawChan c).chan c with state := .faulted }).raise .chFault := rfl
  rw [faulted, withdrawn, State.ticked_chan, State.setChan_eq_ticked, State.ticked_ticked]
  rfl

/-! ### Aging (R72, R123, R124) -/

/-- The records of a channel that become late at a period tick. -/
def State.lateNow (s : State) (c : Chan) : Nat := s.queue.countP (Record.becomesLate c)

/-- Whether a period tick counts late records: some record becomes late, and the channel is not IDLE. -/
def State.countsLate (s : State) (c : Chan) : Bool := (s.chan c).state != .idle && decide (0 < s.lateNow c)

theorem PerChan.set_get {α : Type} (p : PerChan α) (c : Chan) : p.set c (p.get c) = p := by cases c <;> rfl

theorem State.ageRecords_eq_ticked (s : State) (c : Chan) :
    s.ageRecords c = s.ticked c (s.queue.map (Record.aged c))
      { s.chan c with late := if s.countsLate c then min 15 ((s.chan c).late + s.lateNow c) else (s.chan c).late }
      (if s.countsLate c then s.events.raise (.late c) else s.events) := by
  have counts : s.countsLate c = true ↔ (s.chan c).state ≠ .idle ∧ 0 < s.lateNow c := by simp [State.countsLate]
  unfold State.ageRecords
  by_cases h : s.countsLate c = true
  · rw [if_pos h, if_pos h]
    exact if_pos (counts.mp h)
  · rw [if_neg h, if_neg h]
    refine (if_neg (mt counts.mpr h)).trans ?_
    exact congrArg (fun chans => { s with queue := s.queue.map (Record.aged c), chans := chans }) (PerChan.set_get s.chans c).symm

/-- Aging leaves the number of records of each channel. -/
theorem countP_aged (c d : Chan) (q : List Record) :
    (q.map (Record.aged c)).countP (·.source == .chan d) = q.countP (·.source == .chan d) := by
  rw [List.countP_map]
  refine List.countP_congr fun r _ => ?_
  rw [Function.comp, show (r.aged c).source = r.source by unfold Record.aged; split <;> rfl]

/-! ### A slip or a post (R126, R127) -/

/-- The words of its FIFO that a channel has free for a burst: room for those of a FETCH, words for those of a DEPOSIT. -/
def Channel.burstRoom (x : Channel) : Nat :=
  match x.direction with
  | .fetch => 64 - x.fifo.length - x.reserved
  | .deposit => x.fifo.length - x.claimed

/-- The reasons of R126 in their order. -/
theorem State.slipReason_eq (s : State) (c : Chan) :
    s.slipReason c =
      if 3 ≤ s.outstanding c then some .backlog
      else if 8 ≤ s.queue.length then some .queueFull
      else if (s.chan c).burstRoom < (s.chan c).burst then some .fifo else none := rfl

theorem State.tryPost_of_slip {s : State} {c : Chan} {why : SlipReason} (h : s.slipReason c = some why) :
    s.tryPost c = s.slipChan c why := by
  rw [State.tryPost, h]

theorem State.tryPost_of_none {s : State} {c : Chan} (h : s.slipReason c = none) : s.tryPost c = s.postBurst c := by
  rw [State.tryPost, h]

/-- A burst reserves where it reads and claims where it writes (R127). -/
theorem Channel.afterPost_eq (x : Channel) (c : Chan) :
    x.afterPost = { x with
      cursor := if x.regionLength ≤ x.cursor + x.burst then 0 else x.cursor + x.burst
      reserved := if (x.burstRecord c).kind = .read then x.reserved + x.burst else x.reserved
      claimed := if (x.burstRecord c).kind = .write then x.claimed + x.burst else x.claimed } := by
  unfold Channel.afterPost Channel.burstRecord
  cases x.direction <;> rfl

/-! ### PERIOD_TICK -/

/-- A period tick that occurs starts the count again, has its steps, and then the choices of the banks (R119, R123). -/
theorem exec_periodTick {s : State} (hr : s.inReset = false) {c : Chan} {origin : TickOrigin}
    (occurs : origin = .sender ∨ (s.chan c).product ≤ (s.chan c).period) :
    exec (.periodTick ⟨c, origin⟩) s = .next ((s.setChan c { s.chan c with period := 0 }).periodSteps c).reconsiderAll := by
  show Host.Outcome.next (s.outOfReset _) = _
  rw [State.outOfReset_of_not hr]
  exact congrArg Host.Outcome.next (if_pos ((tickOccurs_iff ..).mpr occurs))

/-- A tick of the counter whose count was set to 0 since does not occur (R119, R120). -/
theorem exec_periodTick_none {s : State} (hr : s.inReset = false) {c : Chan} (early : (s.chan c).period < (s.chan c).product) :
    exec (.periodTick ⟨c, .counter⟩) s = .next s := by
  show Host.Outcome.next (s.outOfReset _) = _
  rw [State.outOfReset_of_not hr]
  refine congrArg Host.Outcome.next (if_neg fun h => ?_)
  rcases (tickOccurs_iff ..).mp h with sender | late
  · cases sender
  · exact Nat.not_le.mpr early late

/-- Settles O39: the tick that does not occur; the aged records with the late count; then the late limit, the reasons of R126 in their
order, and the post. -/
theorem periodTicksAgeSlipAndPost : Obligations.PeriodTicksAgeSlipAndPost := by
  intro c origin s hr x product k counts aged y raised with' waits words slips room place kind posted leads
  have aging : (s.setChan c { x with period := 0 }).ageRecords c = with' aged y raised := by
    rw [State.ageRecords_eq_ticked, State.setChan_eq_ticked, State.ticked_ticked, State.ticked_chan]
    unfold State.countsLate State.lateNow
    rw [State.ticked_chan]
    rfl
  have channel : (with' aged y raised).chan c = y := s.ticked_chan c aged y raised
  have outstanding : (with' aged y raised).outstanding c = s.outstanding c := countP_aged c c s.queue
  have length : (with' aged y raised).queue.length = s.queue.length := List.length_map ..
  have branches : (s.setChan c { x with period := 0 }).periodSteps c =
      if x.state = .running then
        if x.lateLimit ≤ y.late then (with' aged y raised).faultChan c else (with' aged y raised).tryPost c
      else with' aged y raised := by
    rw [State.periodSteps, aging, channel]
    rfl
  have steps {u : State} (h : (s.setChan c { x with period := 0 }).periodSteps c = u) : leads u := fun occurs =>
    ⟨h ▸ exec_periodTick hr occurs, u.reconsiderAll_choicesOf⟩
  refine ⟨fun counter early => ?_, fun stopped => steps (by rw [branches, if_neg stopped]),
    fun running => ⟨fun late => ?_, fun below => ?_⟩⟩
  · rw [show origin = .counter from counter]
    exact exec_periodTick_none hr early
  · refine steps ?_
    rw [branches, if_pos running, if_pos late, State.faultChan_eq_ticked, channel]
    exact s.ticked_ticked c aged y raised _ _ _
  · rw [if_pos running, if_neg (Nat.not_le.mpr below)] at branches
    have reason := State.slipReason_eq (with' aged y raised) c
    rw [outstanding, length, channel] at reason
    have slip {why : SlipReason} (h : (with' aged y raised).slipReason c = some why) : leads (slips why) := by
      refine steps ?_
      rw [branches, State.tryPost_of_slip h, State.slipChan_eq_ticked, channel]
      exact s.ticked_ticked c aged y raised _ _ _
    refine ⟨fun backlog => slip ?_, fun few full => slip ?_, fun few free narrow => slip ?_, fun few free wide => steps ?_⟩
    · rw [reason, if_pos backlog]
    · rw [reason, if_neg (Nat.not_le.mpr few), if_pos full]
    · rw [reason, if_neg (Nat.not_le.mpr few), if_neg (Nat.not_le.mpr free)]
      exact if_pos narrow
    · rw [if_neg (Nat.not_le.mpr few), if_neg (Nat.not_le.mpr free)] at reason
      rw [branches, State.tryPost_of_none (reason.trans (if_neg (Nat.not_lt.mpr wide))), State.postBurst_eq_ticked, channel,
        Channel.afterPost_eq y c]
      exact s.ticked_ticked c aged y raised _ _ _

end Sys2Proof.Machine
end

section
/-! HOST_CANCEL: its checks, the records that it withdraws, and the report of a queue left empty: O18. -/

namespace Sys2Proof.Machine

section
variable {s : State}

/-! ### The records that HOST_CANCEL takes back (R91, R109, R110) -/

/-- A record that is taken back is a host record. -/
theorem Record.source_of_cancellable {r : Record} (h : r.cancellable = true) : r.source = .host := by
  simp only [Record.cancellable, Bool.and_eq_true, beq_iff_eq] at h
  exact h.1

/-- In HOLD_ENTRY an empty queue makes the precharge-all action present, and so do the reports after it up to HOLD (R95, R178, R179). -/
theorem State.ChoicesOf.prechargeAll_or_hold {t : State} (h : s.ChoicesOf t) (hm : s.mode = .holdEntry)
    (ha : s.prechargeAll = true) : t.prechargeAll = true ∨ t.mode = .hold := by
  obtain ⟨_, _, passage, _⟩ := h
  rcases passage with ⟨_, kept, _⟩ | ⟨_, _, present, _⟩ | ⟨_, hold, _⟩ | ⟨quiescing, _⟩
  · exact .inl (kept.trans ha)
  · exact .inl present
  · exact .inr hold
  · exact absurd (hm.symm.trans quiescing) nofun

/-- The choices of the banks neither empty the queue nor fill it. -/
theorem State.ChoicesOf.queue_eq_nil_iff {t : State} (h : s.ChoicesOf t) : t.queue = [] ↔ s.queue = [] := by
  obtain ⟨_, bare, _, _⟩ := h
  have nil (u : State) : u.bareQueue = [] ↔ u.queue = [] := List.map_eq_nil_iff
  rw [← nil t, bare, nil s]

/-! ### HOST_CANCEL (R109) -/

theorem execHostCancel_empty (hr : s.inReset = false) (hm : s.mode ∈ [Mode.run, .holdEntry])
    (absent : ∀ r ∈ s.queue, r.source ≠ .host) : execHostCancel s = .next (s.refuse .empty) := by
  have host : (s.queue.any fun r => r.source == .host) = false := by simpa using absent
  exact congrArg Host.Outcome.next (State.command_check_fails hr hm _ (by simp only [host]; rfl))

theorem execHostCancel_busy (hr : s.inReset = false) (hm : s.mode ∈ [Mode.run, .holdEntry])
    (found : ∃ r ∈ s.queue, r.source = .host) (started : ∀ r ∈ s.queue, r.cancellable = false) :
    execHostCancel s = .next (s.refuse .busy) := by
  have host : (s.queue.any fun r => r.source == .host) = true := by simpa using found
  have fresh : s.queue.any Record.cancellable = false := by simpa using started
  exact congrArg Host.Outcome.next (State.command_check_fails hr hm _ (by simp only [host, fresh]; rfl))

/-- Taken, where a host record has not started. In RUN and HOLD_ENTRY the withdrawal is followed by the report of an empty queue
alone, since the quiesce test is of QUIESCING (R95, R176). -/
theorem execHostCancel_taken (hr : s.inReset = false) (hm : s.mode ∈ [Mode.run, .holdEntry])
    (found : ∃ r ∈ s.queue, r.cancellable = true) :
    execHostCancel s = .next
      ({ (s.withResult .ok).withdrawHost with prechargeAll := s.actionAfter s.withdrawHost.queue } : State).reconsiderAll := by
  have fresh : s.queue.any Record.cancellable = true := List.any_eq_true.mpr found
  have host : (s.queue.any fun r => r.source == .host) = true := by
    obtain ⟨r, hmem, hfresh⟩ := found
    exact List.any_eq_true.mpr ⟨r, hmem, beq_iff_eq.mpr (Record.source_of_cancellable hfresh)⟩
  have mode : (s.withResult .ok).withdrawHost.mode ≠ .quiescing := by
    show s.mode ≠ .quiescing
    intro quiescing
    simp [quiescing] at hm
  refine congrArg Host.Outcome.next ((State.command_checks_pass hr hm _ (by simp only [host, fresh]; rfl)).trans ?_)
  rw [State.afterRemoval_eq mode]
  rfl

end

/-- Settles O18: the modes, the two checks of R109, then the withdrawal with the report of R95. The choices keep the queue, so a queue
that they leave empty was left empty by the withdrawal, and the action that it made present stays up to HOLD. -/
theorem hostCancelWithdrawsWhatHasNotStarted : Obligations.HostCancelWithdrawsWhatHasNotStarted := by
  intro s hr
  refine ⟨fun hm => congrArg Host.Outcome.next (State.command_of_not_taken hr (by simpa using hm) _ _), fun hm => ?_⟩
  have taken : s.mode ∈ [Mode.run, .holdEntry] := by simpa using hm
  intro fresh
  refine ⟨execHostCancel_empty hr taken, execHostCancel_busy hr taken, fun found => ?_⟩
  intro kept u t
  have choices : u.ChoicesOf t := u.reconsiderAll_choicesOf
  refine ⟨execHostCancel_taken hr taken found, choices, fun entry emptied => choices.prechargeAll_or_hold entry ?_⟩
  exact if_pos ⟨entry, choices.queue_eq_nil_iff.mp emptied⟩

end Sys2Proof.Machine
end

section
/-! The data port: what its reads deliver and its writes form: O26 and O27. -/

namespace Sys2Proof.Machine

section
variable {s : State}

/-! ### Read cycles out of reset (R183, R185) -/

/-- Out of reset a read cycle has its effect, and D[7:0] carries the register as it was before. -/
theorem State.readCycle_of_not (hr : s.inReset = false) (addr : BitVec 5) (effect : State → State) :
    s.readCycle addr effect = { effect s with hostData := some (s.readRegister addr) } := by
  rw [State.readCycle, State.outOfReset_of_not hr, State.busRead, hr]
  rfl

/-! ### DATAL_READ and DATAH_READ (R101, R102) -/

/-- A read of DATAL with a word to deliver. -/
theorem execDatalRead_word (hr : s.inReset = false) (released : s.readReleased = true) {d : Data}
    (head : s.host.readBuf.head? = some d) :
    execDatalRead s =
      .next { s with hostData := some (lowByte d), host := { s.host with readLatch := some (highByte d) } } := by
  have carried : s.readRegister 0x09 = lowByte d := by
    show s.datalByte = lowByte d
    rw [State.datalByte, if_pos released, head]
    rfl
  refine congrArg Host.Outcome.next ((State.readCycle_of_not hr _ _).trans ?_)
  rw [carried, released, head]

/-- A read of DATAL while a host read stands in the queue, or with an empty read buffer. -/
theorem execDatalRead_nothing (hr : s.inReset = false) (nothing : s.readReleased = false ∨ s.host.readBuf.head? = none) :
    execDatalRead s = .next { s with hostData := some 0, events := s.events.raise .dpUnder } := by
  have carried : s.readRegister 0x09 = 0 := by
    show s.datalByte = 0
    unfold State.datalByte
    rcases nothing with held | empty
    · rw [held]; rfl
    · rw [empty]; exact ite_self 0
  refine congrArg Host.Outcome.next ((State.readCycle_of_not hr _ _).trans ?_)
  rw [carried]
  split
  next released head =>
    rcases nothing with held | empty
    · exact absurd (held.symm.trans released) nofun
    · exact absurd (empty.symm.trans head) nofun
  next => rfl

/-- A read of DATAH with a latched byte. -/
theorem execDatahRead_latched (hr : s.inReset = false) {v : Byte} (latch : s.host.readLatch = some v) :
    execDatahRead s = .next { s with
      hostData := some v
      host := { s.host with
        readBuf := s.host.readBuf.tail, readLatch := none, rdbad := s.host.rdbad && !s.host.readBuf.tail.isEmpty } } := by
  have carried : s.readRegister 0x0A = v := by
    show s.host.readLatch.getD 0 = v
    rw [latch]
    rfl
  refine congrArg Host.Outcome.next ((State.readCycle_of_not hr _ _).trans ?_)
  rw [carried, latch]
  rfl

/-- A read of DATAH with the latch absent. -/
theorem execDatahRead_absent (hr : s.inReset = false) (latch : s.host.readLatch = none) :
    execDatahRead s = .next { s with hostData := some 0, events := s.events.raise .dpUnder } := by
  have carried : s.readRegister 0x0A = 0 := by
    show s.host.readLatch.getD 0 = 0
    rw [latch]
    rfl
  refine congrArg Host.Outcome.next ((State.readCycle_of_not hr _ _).trans ?_)
  rw [carried, latch]
  rfl

/-- RDBAD stays while a word is left behind the head. -/
theorem rdbad_of_tail (bad : Bool) (buf : List Data) :
    (bad && !buf.tail.isEmpty) = if buf.length ≤ 1 then false else bad := by
  match buf with
  | [] | [_] | _ :: _ :: _ => simp

/-! ### DATAL_WRITE and DATAH_WRITE (R105, R106) -/

/-- A write of DATAH with the write buffer closed, or with its count of words in it. -/
theorem execDatahWrite_discards (hr : s.inReset = false) (v : Byte)
    (h : s.host.writeOpen = none ∨ ∃ n, s.host.writeOpen = some n ∧ n ≤ s.host.writeBuf.length) :
    execDatahWrite v s = .next { s with host := { s.host with heldLow := none }, events := s.events.raise .dpOver } := by
  refine congrArg Host.Outcome.next ((State.outOfReset_of_not hr _).trans ?_)
  rcases h with closed | ⟨n, isOpen, full⟩
  · rw [closed]
    rfl
  · rw [isOpen]
    exact if_pos full

/-- A write of DATAH that leaves the write buffer short of its count. -/
theorem execDatahWrite_appends (hr : s.inReset = false) (v : Byte) {n : Nat} (isOpen : s.host.writeOpen = some n)
    (short : s.host.writeBuf.length + 1 < n) :
    execDatahWrite v s = .next { s with
      host := { s.host with heldLow := none, writeBuf := s.host.writeBuf ++ [s.host.formWord v] } } := by
  refine congrArg Host.Outcome.next ((State.outOfReset_of_not hr _).trans ?_)
  rw [isOpen]
  have notLast : n ≠ (s.host.writeBuf ++ [s.host.formWord v]).length := by
    rw [List.length_append, List.length_singleton]
    exact short.ne'
  exact (if_neg (Nat.not_le.mpr (Nat.lt_of_succ_lt short))).trans (if_neg notLast)

/-- The write of DATAH that brings the write buffer to its count closes it, and its record is WAITING. -/
theorem execDatahWrite_closes (hr : s.inReset = false) (v : Byte) {n : Nat} (isOpen : s.host.writeOpen = some n)
    (last : s.host.writeBuf.length + 1 = n) :
    execDatahWrite v s = .next (State.stagingToWaiting { s with
      host := { s.host with
        heldLow := none, writeBuf := s.host.writeBuf ++ [s.host.formWord v], writeOpen := none } }).reconsiderAll := by
  refine congrArg Host.Outcome.next ((State.outOfReset_of_not hr _).trans ?_)
  rw [isOpen]
  have isLast : n = (s.host.writeBuf ++ [s.host.formWord v]).length := by
    rw [List.length_append, List.length_singleton, last]
  exact (if_neg (Nat.not_le.mpr (Nat.lt_of_succ_le last.le))).trans (if_pos isLast)

end

/-- Settles O26: a word to deliver or none, a latched byte or none. -/
theorem dataPortReadsDeliverWords : Obligations.DataPortReadsDeliverWords := by
  intro s hr
  refine ⟨fun d rest free buf => execDatalRead_word hr (by rw [State.readReleased, free]; rfl) (by rw [buf]; rfl),
    fun nothing => execDatalRead_nothing hr ?_, fun v latch => ?_, execDatahRead_absent hr⟩
  · simpa [State.readReleased] using nothing
  · rw [List.drop_one, ← rdbad_of_tail]
    exact execDatahRead_latched hr latch

/-- Settles O27: DATAL is held; DATAH discards its word, appends it, or closes the buffer with it. -/
theorem dataPortWritesFormWords : Obligations.DataPortWritesFormWords := by
  intro s v hr word
  exact ⟨congrArg Host.Outcome.next (State.outOfReset_of_not hr _), execDatahWrite_discards hr v,
    fun _ isOpen short => execDatahWrite_appends hr v isOpen short,
    fun _ isOpen last => ⟨execDatahWrite_closes hr v isOpen last, State.reconsiderAll_choicesOf _⟩⟩

end Sys2Proof.Machine
end

section
/-! The commands CH_START, CH_STOP and CH_ABORT: their checks, and what a channel that starts or stops leaves: O19, O20 and O21. -/

namespace Sys2Proof.Machine

/-! ### Commands on the channel that ARG0 names (R121, R129, R131) -/

/-- A command on a channel, in a mode that takes it: RANGE where ARG0 names no channel, and otherwise the first check of the channel
that fails, or the command's effect on the channel. -/
theorem State.command_onChan {s : State} (hr : s.inReset = false) {taken : List Mode} (hm : s.mode ∈ taken)
    (checks : State → Chan → List (Bool × Result)) (effect : State → Chan → State) :
    let answer := s.command taken .busy (fun s => s.checkChan fun c => firstFailure (checks s c)) fun s => s.onChan (effect s)
    (s.regs.argChan = none → answer = s.refuse .range) ∧
      ∀ c, s.regs.argChan = some c →
        (∀ r, firstFailure (checks s c) = some r → answer = s.refuse r) ∧
        (firstFailure (checks s c) = none → answer = effect (s.withResult .ok) c) := by
  refine ⟨fun unnamed => State.command_check_fails hr hm _ (by rw [State.checkChan, unnamed]), fun c named => ?_⟩
  have check : (s.checkChan fun c => firstFailure (checks s c)) = firstFailure (checks s c) := by rw [State.checkChan, named]
  exact ⟨fun r fails => State.command_check_fails hr hm _ (check.trans fails),
    fun passes => (State.command_checks_pass hr hm _ (check.trans passes)).trans
      (State.onChan_eq (s := s.withResult .ok) named _)⟩

/-! ### What the checks ask (R114, R117, R121) -/

theorem Channel.busy_iff (x : Channel) : x.busy = true ↔ x.state = .running ∨ x.state = .draining := by
  simp [Channel.busy]

/-- The first check of CH_START: BUSY of a channel that is not stopped, or has records outstanding (R121). -/
theorem State.startBusy_iff (s : State) (c : Chan) :
    ((s.chan c).busy || decide (0 < s.outstanding c)) = true ↔
      (s.chan c).state = .running ∨ (s.chan c).state = .draining ∨ 0 < s.outstanding c := by
  rw [Bool.or_eq_true, Channel.busy_iff, decide_eq_true_iff, or_assoc]

/-- The range check of a descriptor passes in the ranges of R114; a start column is a byte, so its range needs no test. -/
theorem State.descRangeFails_eq_false_iff (s : State) (x : Channel) : s.descRangeFails x = false ↔ s.DescriptorInRange x := by
  have col : x.baseCol ≤ 255 := Nat.le_of_lt_succ (x.descByte 3).isLt
  simp [State.descRangeFails, State.DescriptorInRange, col, and_assoc]

/-- The region check passes where whole bursts fill the region and the region ends in the bank (R9). -/
theorem Channel.regionFails_eq_false_iff (x : Channel) : x.regionFails = false ↔ x.RegionFits := by
  rw [Channel.regionFails, Bool.or_eq_false_iff, bne_eq_false_iff_eq, decide_eq_false_iff_not, Nat.not_lt, Channel.RegionFits,
    Nat.dvd_iff_mod_eq_zero, Channel.baseOffset]

/-- Nothing of a channel is outstanding where no record of the queue is of it (R117). -/
theorem State.outstanding_eq_zero_iff (s : State) (c : Chan) : s.outstanding c = 0 ↔ ∀ r ∈ s.queue, r.source ≠ .chan c := by
  simp [State.outstanding, List.countP_eq_zero]

/-! ### The effects on the channel (R91, R122, R129) -/

/-- A start replaces the channel by one RUNNING afresh, and a DEPOSIT strobe of it loses its word (R122, R145). -/
theorem State.startChan_eq (s : State) (c : Chan) :
    s.startChan c = { s with
      chans := s.chans.set c { s.chan c with
        state := .running, fifo := [], reserved := 0, claimed := 0, cursor := 0, late := 0, slips := 0
        lastSlip := .noSlip, period := 0 }
      strobe := s.strobe.map (Strobe.afterFlush c) } := by
  rw [State.startChan, State.flushFifo_eq, State.setChan]
  simp only [State.chan, PerChan.get_set_same, PerChan.set_set]
  rfl

/-- A channel that stops with records outstanding drains (R129). -/
theorem State.stopChan_of_outstanding {s : State} {c : Chan} (h : s.outstanding c ≠ 0) :
    s.stopChan c = { s with chans := s.chans.set c { s.chan c with state := .draining } } := if_neg h

/-- A channel that stops with none outstanding is IDLE with CH_IDLE (R129). -/
theorem State.stopChan_of_none {s : State} {c : Chan} (h : s.outstanding c = 0) :
    s.stopChan c = { s with chans := s.chans.set c { s.chan c with state := .idle }, events := s.events.raise .chIdle } :=
  if_pos h

/-- The channel after the withdrawal of its WAITING records: their words are no longer reserved or claimed (R91). -/
def State.released (s : State) (c : Chan) : Channel :=
  let gone := s.queue.filter (Record.removable c)
  { s.chan c with
    reserved := (s.chan c).reserved - countsOf .read gone, claimed := (s.chan c).claimed - countsOf .write gone }

theorem State.withdrawChan_eq (s : State) (c : Chan) :
    s.withdrawChan c = { s with
      chans := s.chans.set c (s.released c), queue := s.queue.filter fun r => !Record.removable c r } := rfl

/-- A channel that stops behind the withdrawal of its WAITING records, with one of them left: it drains (R131). -/
theorem State.abort_of_left {s : State} {c : Chan} (left : ∃ r ∈ (s.withdrawChan c).queue, r.source = .chan c) :
    (s.withdrawChan c).stopChan c = { s with
      queue := s.queue.filter fun r => !Record.removable c r
      chans := s.chans.set c { s.released c with state := .draining } } := by
  have outstanding : (s.withdrawChan c).outstanding c ≠ 0 := by
    obtain ⟨r, mem, source⟩ := left
    exact fun noneLeft => (State.outstanding_eq_zero_iff _ c).mp noneLeft r mem source
  rw [State.stopChan_of_outstanding outstanding, State.withdrawChan_eq]
  simp only [State.chan, PerChan.get_set_same, PerChan.set_set]

/-- A channel that stops behind the withdrawal of its WAITING records, with none left: it is IDLE with CH_IDLE (R131). -/
theorem State.abort_of_none_left {s : State} {c : Chan} (noneLeft : ∀ r ∈ (s.withdrawChan c).queue, r.source ≠ .chan c) :
    (s.withdrawChan c).stopChan c = { s with
      queue := s.queue.filter fun r => !Record.removable c r
      chans := s.chans.set c { s.released c with state := .idle }
      events := s.events.raise .chIdle } := by
  rw [State.stopChan_of_none ((State.outstanding_eq_zero_iff _ c).mpr noneLeft), State.withdrawChan_eq]
  simp only [State.chan, PerChan.get_set_same, PerChan.set_set]

/-! ### CH_START, CH_STOP and CH_ABORT -/

/-- Settles O19: the modes, the checks of R121 in their order, then the channel RUNNING afresh. -/
theorem channelStartRunsTheChannel : Obligations.ChannelStartRunsTheChannel := by
  intro s hr
  refine ⟨fun hm => congrArg Host.Outcome.next (s.command_of_not_run hr hm _ _), fun hm => ?_⟩
  obtain ⟨unnamed, named⟩ := State.command_onChan hr (taken := [.run]) (by simpa using hm)
    (fun s c => [((s.chan c).busy || decide (0 < s.outstanding c), .busy),
      (s.descRangeFails (s.chan c), .range), ((s.chan c).regionFails, .region)]) State.startChan
  refine ⟨fun absent => congrArg Host.Outcome.next (unnamed absent), fun c arg => ?_⟩
  intro x busy
  obtain ⟨refused, started⟩ := named c arg
  have stopped (h : ¬busy) : ((s.chan c).busy || decide (0 < s.outstanding c)) = false :=
    Bool.eq_false_iff.mpr (mt (s.startBusy_iff c).mp h)
  have outOfRange (h : ¬s.DescriptorInRange x) : s.descRangeFails x = true :=
    eq_true_of_ne_false (mt (s.descRangeFails_eq_false_iff x).mp h)
  have outOfRegion (h : ¬x.RegionFits) : x.regionFails = true :=
    eq_true_of_ne_false (mt x.regionFails_eq_false_iff.mp h)
  refine ⟨fun hb => congrArg Host.Outcome.next (refused _ ?_), fun hb hd => congrArg Host.Outcome.next (refused _ ?_),
    fun hb hd hf => congrArg Host.Outcome.next (refused _ ?_),
    fun hb hd hf => congrArg Host.Outcome.next ((started ?_).trans ((s.withResult .ok).startChan_eq c))⟩
  · rw [(s.startBusy_iff c).mpr hb]; rfl
  · rw [stopped hb, outOfRange hd]; rfl
  · rw [stopped hb, (s.descRangeFails_eq_false_iff x).mpr hd, outOfRegion hf]; rfl
  · rw [stopped hb, (s.descRangeFails_eq_false_iff x).mpr hd, x.regionFails_eq_false_iff.mpr hf]; rfl

/-- Settles O20: the modes, the checks of R129 by the channel's state, then the stop with records outstanding or without. -/
theorem channelStopDrains : Obligations.ChannelStopDrains := by
  intro s hr
  refine ⟨fun hm => congrArg Host.Outcome.next (s.command_of_not_run hr hm _ _), fun hm => ?_⟩
  obtain ⟨unnamed, named⟩ := State.command_onChan hr (taken := [.run]) (by simpa using hm)
    (fun s c => [((s.chan c).state == .draining, .busy), ((s.chan c).state != .running, .empty)]) State.stopChan
  refine ⟨fun absent => congrArg Host.Outcome.next (unnamed absent), fun c arg => ?_⟩
  intro x
  obtain ⟨refused, stops⟩ := named c arg
  have passes (running : x.state = .running) :
      firstFailure [(x.state == .draining, .busy), (x.state != .running, .empty)] = none := by rw [running]; rfl
  refine ⟨fun draining => congrArg Host.Outcome.next (refused _ (if_pos (beq_iff_eq.mpr draining))),
    fun stopped => congrArg Host.Outcome.next (refused _ ?_),
    fun running left => congrArg Host.Outcome.next
      ((stops (passes running)).trans (State.stopChan_of_outstanding (s := s.withResult .ok) left.ne')),
    fun running gone => congrArg Host.Outcome.next
      ((stops (passes running)).trans (State.stopChan_of_none (s := s.withResult .ok) gone))⟩
  show firstFailure [(x.state == .draining, .busy), (x.state != .running, .empty)] = _
  rcases stopped with idle | faulted
  · rw [idle]; rfl
  · rw [faulted]; rfl

/-- Settles O21: the modes, the check of R131, then the withdrawal with a record of the channel left in the queue or with none, behind
which the banks choose. -/
theorem channelAbortWithdrawsWaitingRecords : Obligations.ChannelAbortWithdrawsWaitingRecords := by
  intro s hr
  refine ⟨fun hm => congrArg Host.Outcome.next (s.command_of_not_run hr hm _ _), fun hm => ?_⟩
  obtain ⟨unnamed, named⟩ := State.command_onChan hr (taken := [.run]) (by simpa using hm)
    (fun s c => [(!(s.chan c).busy, .empty)]) fun s c => ((s.withdrawChan c).stopChan c).reconsiderAll
  refine ⟨fun absent => congrArg Host.Outcome.next (unnamed absent), fun c arg => ?_⟩
  intro x gone kept words y
  obtain ⟨refused, aborts⟩ := named c arg
  refine ⟨fun stopped => congrArg Host.Outcome.next (refused _ ?_), fun busy => ?_⟩
  · rw [(Channel.busy_eq_false_iff _).mpr stopped]; rfl
  · have aborted := aborts (by rw [(Channel.busy_iff _).mpr busy]; rfl)
    refine ⟨fun left => ⟨congrArg Host.Outcome.next (aborted.trans ?_), State.reconsiderAll_choicesOf _⟩,
      fun noneLeft => ⟨congrArg Host.Outcome.next (aborted.trans ?_), State.reconsiderAll_choicesOf _⟩⟩
    · exact congrArg State.reconsiderAll (State.abort_of_left (s := s.withResult .ok) left)
    · exact congrArg State.reconsiderAll (State.abort_of_none_left (s := s.withResult .ok) noneLeft)

end Sys2Proof.Machine
end

section
/-! The rows in a reset: O8. -/

namespace Sys2Proof.Machine

section
variable {s : State}

/-! ### Rows in a reset (R152, R183) -/

/-- In a reset a read cycle has no effect, and D[7:0] carries nothing. -/
theorem State.readCycle_of_inReset (hr : s.inReset = true) (addr : BitVec 5) (effect : State → State) :
    s.readCycle addr effect = { s with hostData := none } := by
  rw [State.readCycle, State.outOfReset_of_inReset hr, State.busRead, if_pos hr]

/-- The state with the level of LREQn of a channel last sampled. -/
def State.withLreq (s : State) (c : Chan) (level : Bool) : State := s.setChan c { s.chan c with lreq := level }

theorem State.withLreq_chan (s : State) (c : Chan) (level : Bool) : (s.withLreq c level).chan c = { s.chan c with lreq := level } :=
  s.chan_setChan_same c _

/-- An update of a channel whose LREQn has been sampled. -/
theorem State.withLreq_setChan (s : State) (c : Chan) (level : Bool) (x : Channel) : (s.withLreq c level).setChan c x = s.setChan c x :=
  s.setChan_setChan c _ x

/-- In a reset a sample of LREQn that finds it asserted changes its level alone. -/
theorem exec_lreqAsserted_inReset (hr : s.inReset = true) (c : Chan) :
    exec (.lreqAsserted c) s = .next (s.withLreq c true) :=
  congrArg Host.Outcome.next (State.outOfReset_of_inReset (s := s.withLreq c true) hr _)

/-- In a reset a sample of LREQn that finds it deasserted changes its level alone. -/
theorem exec_lreqWithdrawn_inReset (hr : s.inReset = true) (c : Chan) :
    exec (.lreqWithdrawn c) s = .next (s.withLreq c false) :=
  congrArg Host.Outcome.next (State.outOfReset_of_inReset (s := s.withLreq c false) hr _)

/-- In a reset a row has no effect, or is a read cycle that delivers nothing, or is one of the resets, RESET_END and the rows of LREQn. -/
theorem exec_inReset_cases {i : Instr} (wf : i.wf = true) (hr : s.inReset = true) :
    ((∀ a, cycleOfRow i ≠ some (.read a)) ∧ exec i s = .next s) ∨
    ((∃ a, cycleOfRow i = some (.read a)) ∧ exec i s = .next { s with hostData := none }) ∨
    (cycleOfRow i = none ∧ (i = .pinReset ∨ i = .powerOnReset ∨ (∃ last, i = .resetEnd last) ∨
      (∃ c, i = .lreqAsserted c) ∨ ∃ c, i = .lreqWithdrawn c)) := by
  have ignored (effect : State → State) : Host.Outcome.next (s.outOfReset effect) = (.next s : Host.Outcome State Fault Refusal) :=
    congrArg Host.Outcome.next (State.outOfReset_of_inReset hr effect)
  have undriven (addr : BitVec 5) (effect : State → State) :
      Host.Outcome.next (s.readCycle addr effect) = (.next { s with hostData := none } : Host.Outcome State Fault Refusal) :=
    congrArg Host.Outcome.next (State.readCycle_of_inReset hr addr effect)
  cases i with
  | datalRead | datahRead | tdataRead => exact .inr (.inl ⟨⟨_, rfl⟩, undriven _ _⟩)
  | pinReset => exact .inr (.inr ⟨rfl, .inl rfl⟩)
  | powerOnReset => exact .inr (.inr ⟨rfl, .inr (.inl rfl)⟩)
  | resetEnd last => exact .inr (.inr ⟨rfl, .inr (.inr (.inl ⟨last, rfl⟩))⟩)
  | lreqAsserted c => exact .inr (.inr ⟨rfl, .inr (.inr (.inr (.inl ⟨c, rfl⟩)))⟩)
  | lreqWithdrawn c => exact .inr (.inr ⟨rfl, .inr (.inr (.inr (.inr ⟨c, rfl⟩)))⟩)
  | unknownCommand code =>
    have unnamed : ¬namesCommand code = true := by simpa [Instr.wf] using wf
    exact .inl ⟨nofun, (if_neg unnamed).trans (ignored _)⟩
  | registerWrite addr v =>
    have plain : ¬hasOwnWriteRow addr = true := by simpa [Instr.wf] using wf
    exact .inl ⟨nofun, (if_neg plain).trans (ignored _)⟩
  | eventRegisterWrite reg v => exact .inl ⟨by cases reg <;> exact nofun, ignored _⟩
  | _ => exact .inl ⟨nofun, ignored _⟩

end

/-- Settles O8: each row by what it does in a reset, then the samples of LREQn. -/
theorem busCyclesAreNotAnsweredInReset : Obligations.BusCyclesAreNotAnsweredInReset := by
  intro i s wf hr
  have undriven (a : BitVec 5) : s.busRead a = none := if_pos hr
  have row := exec_inReset_cases wf hr
  refine ⟨fun a v write => ?_, fun a read => ?_, undriven, fun pins => ?_, fun noCycle pin power reset asserted withdrawn => ?_,
    fun c => ⟨exec_lreqAsserted_inReset hr c, exec_lreqWithdrawn_inReset hr c⟩⟩
  · obtain ⟨_, ignored⟩ | ⟨⟨a', read⟩, _⟩ | ⟨noCycle, _⟩ := row
    · exact ignored
    · cases write.symm.trans read
    · cases write.symm.trans noCycle
  · obtain ⟨noRead, _⟩ | ⟨_, unanswered⟩ | ⟨noCycle, _⟩ := row
    · exact absurd read (noRead a)
    · exact unanswered
    · cases read.symm.trans noCycle
  · unfold State.busDrives
    split
    · exact undriven _
    · rfl
  · obtain ⟨_, ignored⟩ | ⟨⟨a, read⟩, _⟩ | ⟨_, rfl | rfl | ⟨last, rfl⟩ | ⟨c, rfl⟩ | ⟨c, rfl⟩⟩ := row
    · exact ignored
    · cases noCycle.symm.trans read
    · exact absurd rfl pin
    · exact absurd rfl power
    · exact absurd rfl (reset last)
    · exact absurd rfl (asserted c)
    · exact absurd rfl (withdrawn c)

end Sys2Proof.Machine
end

section
/-! The lane: requests, grants and strobes: O33, O34 and O35. -/

namespace Sys2Proof.Machine

section
variable {s : State}

/-- Out of reset a row comes to what its effect makes of the state. -/
theorem State.next_outOfReset {t : State} {effect : State → State} (hr : s.inReset = false) (h : effect s = t) :
    Host.Outcome.next (s.outOfReset effect) = (.next t : Host.Outcome State Fault Refusal) :=
  congrArg Host.Outcome.next ((State.outOfReset_of_not hr effect).trans h)

/-! ### Lane requests (R142, R148, R149) -/

theorem Channel.starves_iff (x : Channel) : x.starves = true ↔ x.direction = .fetch ∧ x.fifo.length = 0 := by
  simp [Channel.starves, Channel.held]

theorem Channel.blocks_iff (x : Channel) :
    x.blocks = true ↔ x.direction = .deposit ∧ x.state = .running ∧ x.fifo.length = 64 := by
  simp [Channel.blocks, Channel.held, and_assoc]

/-- A first sighting of a request, with the event tests of the lane. -/
theorem exec_lreqAsserted_quiet (hr : s.inReset = false) {c : Chan} (quiet : (s.chan c).request = .quiet)
    (idle : ¬s.strobing c = true) : exec (.lreqAsserted c) s =
      .next (((s.setChan c { s.chan c with lreq := true, request := .pending }).raiseIf (s.chan c).starves .laneStarve).raiseIf
        (s.chan c).blocks .laneBlock) := by
  refine State.next_outOfReset (s := s.withLreq c true) hr ?_
  simp only [State.withLreq_chan, State.withLreq_setChan]
  exact if_pos ⟨quiet, (Bool.not_eq_true' _).mpr (Bool.eq_false_iff.mpr idle)⟩

/-- A sample that finds LREQn asserted is no first sighting while the request waits or the channel's strobe is asserted. -/
theorem exec_lreqAsserted_level (hr : s.inReset = false) {c : Chan} (seen : (s.chan c).request = .pending ∨ s.strobing c = true) :
    exec (.lreqAsserted c) s = .next (s.withLreq c true) := by
  refine State.next_outOfReset (s := s.withLreq c true) hr (if_neg ?_)
  rw [State.withLreq_chan]
  rintro ⟨quiet, idle⟩
  obtain pending | strobing := seen
  · cases pending.symm.trans quiet
  · exact Bool.eq_false_iff.mp ((Bool.not_eq_true' _).mp idle) strobing

/-- A request that is withdrawn outside a strobe of its channel. -/
theorem exec_lreqWithdrawn_idle (hr : s.inReset = false) {c : Chan} (idle : ¬s.strobing c = true) :
    exec (.lreqWithdrawn c) s = .next (s.setChan c { s.chan c with lreq := false, request := .quiet }) := by
  refine State.next_outOfReset (s := s.withLreq c false) hr ((if_neg idle).trans ?_)
  rw [State.withLreq_chan, State.withLreq_setChan]

/-- A sample that finds LREQn deasserted in a strobe of its channel changes the level alone. -/
theorem exec_lreqWithdrawn_strobing (hr : s.inReset = false) {c : Chan} (strobing : s.strobing c = true) :
    exec (.lreqWithdrawn c) s = .next (s.withLreq c false) :=
  State.next_outOfReset (s := s.withLreq c false) hr (if_pos strobing)

/-! ### The lane arbiter (R143, R146) -/

/-- The arbiter's choice is the first channel from its pointer on that can be served. -/
theorem State.laneChoice_eq_some {c : Chan} (servable : (s.chan c).CanBeServed)
    (first : c = s.lanePtr ∨ (c = s.lanePtr.next ∧ ¬(s.chan s.lanePtr).CanBeServed) ∨
      (c = s.lanePtr.next.next ∧ ¬(s.chan s.lanePtr).CanBeServed ∧ ¬(s.chan s.lanePtr.next).CanBeServed)) :
    s.laneChoice = some c := by
  simp only [← Channel.servable_iff] at servable first
  unfold State.laneChoice
  obtain rfl | ⟨rfl, notFirst⟩ | ⟨rfl, notFirst, notSecond⟩ := first
  · simp [servable]
  · simp [notFirst, servable]
  · simp [notFirst, notSecond, servable]

theorem State.laneChoice_eq_none (unservable : ∀ c, ¬(s.chan c).CanBeServed) : s.laneChoice = none :=
  List.find?_eq_none.mpr fun c _ servable => unservable c ((s.chan c).servable_iff.mp servable)

/-- A grant serves the arbiter's choice. -/
theorem exec_laneGrant_some (hr : s.inReset = false) (free : s.strobe = none) {c : Chan} (choice : s.laneChoice = some c) :
    exec .laneGrant s = .next (s.laneServe c) := by
  refine State.next_outOfReset hr ?_
  rw [free, choice]

/-- With the bus busy, or without a choice, nothing is granted. -/
theorem exec_laneGrant_none (hr : s.inReset = false) (idle : s.strobe ≠ none ∨ s.laneChoice = none) :
    exec .laneGrant s = .next s := by
  refine State.next_outOfReset hr ?_
  split
  · next c free choice =>
    obtain busy | noChoice := idle
    · exact absurd free busy
    · cases noChoice.symm.trans choice
  · rfl

/-- A DEPOSIT channel is granted its strobe (R145, R146). -/
theorem State.laneServe_deposit {c : Chan} (deposit : (s.chan c).direction = .deposit) :
    s.laneServe c = { s with lanePtr := c.next, strobe := some (.deposit c false) } := by
  unfold State.laneServe
  simp only [deposit]

/-- A FETCH channel is granted its strobe, for which the head word leaves its FIFO (R144, R146). -/
theorem State.laneServe_fetch {c : Chan} {w : Data} {rest : List Data} (fetch : (s.chan c).direction = .fetch)
    (head : (s.chan c).fifo = w :: rest) :
    s.laneServe c = { s with
      lanePtr := c.next, strobe := some (.fetch c w), chans := s.chans.set c { s.chan c with fifo := rest } } := by
  unfold State.laneServe
  simp only [fetch, head]
  rfl

/-! ### The ends of strobes (R142, R144, R145) -/

theorem exec_fetchStrobeEnd (hr : s.inReset = false) {c : Chan} {w : Data} (strobe : s.strobe = some (.fetch c w)) :
    exec .fetchStrobeEnd s = .next (s.endStrobe c) := by
  refine State.next_outOfReset hr ?_
  rw [strobe]

theorem exec_fetchStrobeEnd_none (hr : s.inReset = false) (other : ∀ c w, s.strobe ≠ some (.fetch c w)) :
    exec .fetchStrobeEnd s = .next s := by
  refine State.next_outOfReset hr ?_
  split
  · next c w strobe => exact absurd strobe (other c w)
  · rfl

theorem exec_depositStrobeEnd (hr : s.inReset = false) {c : Chan} {flushed : Bool} (ld : Data)
    (strobe : s.strobe = some (.deposit c flushed)) : exec (.depositStrobeEnd ld) s =
      .next ((if flushed then s else s.setChan c { s.chan c with fifo := (s.chan c).fifo ++ [ld] }).endStrobe c) := by
  refine State.next_outOfReset hr ?_
  rw [strobe]

theorem exec_depositStrobeEnd_none (hr : s.inReset = false) (ld : Data) (other : ∀ c f, s.strobe ≠ some (.deposit c f)) :
    exec (.depositStrobeEnd ld) s = .next s := by
  refine State.next_outOfReset hr ?_
  split
  · next c flushed strobe => exact absurd strobe (other c flushed)
  · rfl

/-- The end of a strobe behind an update of its channel. -/
theorem State.endStrobe_setChan (s : State) (c : Chan) (x : Channel) :
    (s.setChan c x).endStrobe c = { s with strobe := none, chans := s.chans.set c { x with request := .quiet } } := by
  rw [State.endStrobe, State.chan_setChan_same, State.setChan_setChan]
  rfl

/-- The part drives LD in a FETCH strobe alone (R141). -/
theorem State.laneData_iff (s : State) (w : Data) : s.laneData = some w ↔ ∃ c, s.strobe = some (.fetch c w) := by
  unfold State.laneData
  split
  · next c v strobe => simp [strobe]
  · next other => simpa using fun c => other c w

end

/-! ### The obligations -/

/-- Settles O33: a first sighting with each event test, samples that change the level alone, and withdrawals. -/
theorem laneRequestsAreSeenAndWithdrawn : Obligations.LaneRequestsAreSeenAndWithdrawn := by
  intro s c hr x strobing seen starves blocks
  have strobes : s.strobing c = true ↔ strobing := s.strobing_iff c
  have sighted (quiet : x.request = .quiet) (idle : ¬strobing) :
      exec (.lreqAsserted c) s = .next ((seen.raiseIf x.starves .laneStarve).raiseIf x.blocks .laneBlock) :=
    exec_lreqAsserted_quiet hr quiet (strobes.not.mpr idle)
  have starve_iff : x.starves = true ↔ starves := x.starves_iff
  have block_iff : x.blocks = true ↔ blocks := x.blocks_iff
  have apart : starves → ¬blocks := fun ⟨fetch, _⟩ ⟨deposit, _⟩ => nomatch fetch.symm.trans deposit
  refine ⟨fun quiet idle starve => ?_, fun quiet idle block => ?_, fun quiet idle noStarve noBlock => ?_, fun level => ?_,
    fun idle => exec_lreqWithdrawn_idle hr (strobes.not.mpr idle),
    fun busy => exec_lreqWithdrawn_strobing hr (strobes.mpr busy)⟩
  · rw [sighted quiet idle, starve_iff.mpr starve, Bool.eq_false_iff.mpr (block_iff.not.mpr (apart starve))]
    rfl
  · rw [sighted quiet idle, Bool.eq_false_iff.mpr (starve_iff.not.mpr fun starve => apart starve block), block_iff.mpr block]
    rfl
  · rw [sighted quiet idle, Bool.eq_false_iff.mpr (starve_iff.not.mpr noStarve), Bool.eq_false_iff.mpr (block_iff.not.mpr noBlock)]
    rfl
  · exact exec_lreqAsserted_level hr (level.imp_right strobes.mpr)

/-- Settles O34: the arbiter's choice, served by its direction, and the bus without a grant. -/
theorem laneGrantServesTheFirstFromThePointer : Obligations.LaneGrantServesTheFirstFromThePointer := by
  intro s hr
  refine ⟨fun c free servable first => ?_, fun idle => exec_laneGrant_none hr (idle.imp_right State.laneChoice_eq_none)⟩
  have granted := exec_laneGrant_some hr free (State.laneChoice_eq_some servable first)
  exact ⟨fun deposit => granted.trans (congrArg Host.Outcome.next (State.laneServe_deposit deposit)),
    fun w rest fetch head => granted.trans (congrArg Host.Outcome.next (State.laneServe_fetch fetch head))⟩

/-- Settles O35: the end of each kind of strobe, with a flush since the grant or without, then the pins. -/
theorem strobeEndsAnswerTheRequest : Obligations.StrobeEndsAnswerTheRequest := by
  intro s c w ld hr x
  refine ⟨exec_fetchStrobeEnd hr, fun kept => ?_, exec_depositStrobeEnd hr ld, exec_fetchStrobeEnd_none hr,
    exec_depositStrobeEnd_none hr ld, s.strobing_iff c, s.laneData_iff w⟩
  exact (exec_depositStrobeEnd hr ld kept).trans (congrArg Host.Outcome.next (State.endStrobe_setChan ..))

end Sys2Proof.Machine
end

section
/-! The answers of the commands-by-mode table, codes that name no command, and FAULT_POP: O9, O10 and O25. -/

namespace Sys2Proof.Machine

/-! ### The commands-by-mode table (R164, R173, R175, R187) -/

/-- The modes that a command is taken in, and the result that QUIESCING refuses it with; `none` for a row that is no command of the
commands-by-mode table. -/
def commandModes : Instr → Option (List Mode × Result)
  | .bringup => some ([.setup], .busy)
  | .hold | .hostRead | .hostWrite | .hostWriteByte | .chStart | .chStop | .chAbort | .bankPause | .bankResume =>
    some ([.run], .busy)
  | .wake => some ([.hold], .busy)
  | .trafficReset => some ([.run], .mode)
  | .hostCancel => some ([.run, .holdEntry], .busy)
  | .weakAdd | .weakRemove | .weakClear => some ([.setup, .run], .busy)
  | .clearLost => some ([.run, .holdEntry, .hold], .busy)
  | .faultPop => some ([.setup, .warming, .run, .holdEntry, .hold, .waking], .busy)
  | _ => none

/-- The table's answer is the test of a command's modes. -/
theorem modeAnswer_eq (i : Instr) (m : Mode) :
    modeAnswer i m = (commandModes i).bind fun row => modeTest m row.1 row.2 := by
  cases i with
  | bringup | hold | wake | trafficReset | hostRead | hostWrite | hostWriteByte | hostCancel | chStart | chStop | chAbort
  | weakAdd | weakRemove | weakClear | bankPause | bankResume | clearLost | faultPop => cases m <;> rfl
  | _ => rfl

/-- Every command of the table is a `State.command` with its row's modes. -/
theorem exec_eq_command {i : Instr} {taken : List Mode} {quiescing : Result} (h : commandModes i = some (taken, quiescing)) :
    ∃ check effect, ∀ s, exec i s = .next (s.command taken quiescing check effect) := by
  cases i with
  | bringup | hold | wake | trafficReset | hostRead | hostWrite | hostWriteByte | hostCancel | chStart | chStop | chAbort
  | weakAdd | weakRemove | weakClear | bankPause | bankResume | clearLost | faultPop =>
    cases h
    exact ⟨_, _, fun _ => rfl⟩
  | _ => cases h

/-- A command that the mode test refuses comes to no check of its own. -/
theorem State.command_of_modeTest {s : State} (hr : s.inReset = false) {taken : List Mode} {quiescing r : Result}
    (refused : modeTest s.mode taken quiescing = some r) (check : State → Option Result) (effect : State → State) :
    s.command taken quiescing check effect = s.refuse r := by
  rw [State.command, State.outOfReset_of_not hr, refused]

/-- Settles O9: the table's answer is the mode test that the command makes first. -/
theorem commandsAreRefusedByMode : Obligations.CommandsAreRefusedByMode := by
  intro i s r hr answer
  rw [modeAnswer_eq] at answer
  obtain ⟨⟨taken, quiescing⟩, modes, refused⟩ := Option.bind_eq_some_iff.mp answer
  obtain ⟨check, effect, command⟩ := exec_eq_command modes
  rw [command, State.command_of_modeTest hr refused, State.refuse_eq]

/-! ### Codes that name no command (R187) -/

/-- Settles O10: a code that names no command meets no test of the mode. -/
theorem unknownCodesAreRefusedInEveryMode : Obligations.UnknownCodesAreRefusedInEveryMode := by
  intro code s hr unnamed
  have row : execUnknownCommand code s = .next (s.outOfReset fun s => s.refuse .unknown) := if_neg (by simp [unnamed])
  exact row.trans (State.next_outOfReset hr (s.refuse_eq .unknown))

/-! ### FAULT_POP (R161) -/

/-- FAULT_POP is refused by QUIESCING alone. -/
theorem faultPop_taken_iff (m : Mode) : m ∈ [Mode.setup, .warming, .run, .holdEntry, .hold, .waking] ↔ m ≠ .quiescing := by
  cases m <;> decide

/-- Settles O25: the mode, then the empty list, then the oldest record taken from it. -/
theorem faultPopMovesTheOldestRecord : Obligations.FaultPopMovesTheOldestRecord := by
  intro s hr
  have modes := faultPop_taken_iff s.mode
  refine ⟨fun quiescing => congrArg Host.Outcome.next (State.command_of_not_taken hr (modes.not.mpr (not_not.mpr quiescing)) _ _),
    fun hm => ⟨fun empty => ?_, fun f rest oldest => ?_⟩⟩
  · exact congrArg Host.Outcome.next (State.command_check_fails hr (modes.mpr hm) _ (by rw [empty]; rfl))
  · refine congrArg Host.Outcome.next ((State.command_checks_pass hr (modes.mpr hm) _ (by rw [oldest]; rfl)).trans ?_)
    show ({ s.withResult .ok with faultView := s.faults.head?, faults := s.faults.tail } : State) = _
    rw [oldest, List.head?_cons, List.tail_cons]

end Sys2Proof.Machine
end

section
/-! Fault reports, the writes that acknowledge, and IRQ#: O54, O30 and O32. -/

namespace Sys2Proof.Machine

/-! ### A report to the fault list (R156, R158) -/

/-- The identity of a record is its kind, bank, row and column. -/
theorem FaultRecord.same_iff (f g : FaultRecord) : f.same g = true ↔ f.kind = g.kind ∧ f.bank = g.bank ∧ f.place = g.place := by
  simp [FaultRecord.same, and_assoc]

/-- One more report on the records of an identity, where one record alone has it. -/
theorem FaultRecord.map_again {f g : FaultRecord} {before after : List FaultRecord} (found : f.same g = true)
    (beforeApart : ∀ h ∈ before, ¬f.same h = true) (afterApart : ∀ h ∈ after, ¬f.same h = true) :
    ((before ++ g :: after).map fun h => if f.same h then h.again else h) = before ++ g.again :: after := by
  have kept {l : List FaultRecord} (apart : ∀ h ∈ l, ¬f.same h = true) : (l.map fun h => if f.same h then h.again else h) = l :=
    (List.map_congr_left fun h hmem => if_neg (apart h hmem)).trans l.map_id'
  rw [List.map_append, List.map_cons, kept beforeApart, kept afterApart, if_pos found]

/-- Settles O54: the three outcomes of a report, by what the list holds. -/
theorem faultReportsAreMergedAppendedOrLost : Obligations.FaultReportsAreMergedAppendedOrLost := by
  intro s f same
  have same_iff (g : FaultRecord) : f.same g = true ↔ same g := f.same_iff g
  have outcome := s.recordFault_cases f
  refine ⟨fun before g after faults found beforeApart afterApart => ?_, fun apart => ?_⟩
  · have known : s.faults.any f.same = true := List.any_eq_true.mpr ⟨g, by simp [faults], (same_iff g).mpr found⟩
    obtain ⟨_, merged⟩ | ⟨new, _⟩ | ⟨new, _⟩ := outcome
    · rw [merged, faults, FaultRecord.map_again ((same_iff g).mpr found)
        (fun h hmem => (same_iff h).not.mpr (beforeApart h hmem)) fun h hmem => (same_iff h).not.mpr (afterApart h hmem)]
      rfl
    · cases known.symm.trans new
    · cases known.symm.trans new
  · have new : ¬s.faults.any f.same = true := by
      intro known
      obtain ⟨g, hmem, found⟩ := List.any_eq_true.mp known
      exact apart g hmem ((same_iff g).mp found)
    obtain ⟨known, _⟩ | ⟨_, room, appended⟩ | ⟨_, full, lost⟩ := outcome
    · exact absurd known new
    · exact ⟨fun _ => appended, fun full => absurd room (Nat.not_lt.mpr full)⟩
    · exact ⟨fun room => absurd room (Nat.not_lt.mpr full), fun _ => lost⟩

/-! ### Event flags acknowledged (R163) -/

/-- A write of an event register clears the flags at which it has a 1. -/
theorem EventRegs.isSet_writeOnes (r : EventRegs) (reg : EventReg) (v : Byte) (e : Event) :
    (r.writeOnes reg v).isSet e = true ↔ r.isSet e = true ∧ ¬(e.reg = reg ∧ v.getLsbD e.bit = true) := by
  unfold EventRegs.isSet EventRegs.writeOnes
  rw [EventRegs.flags_setFlags]
  by_cases hreg : e.reg = reg
  · simp [hreg, e.bit_lt]
  · simp [hreg]

theorem EventRegs.writeOnes_enables (r : EventRegs) (reg : EventReg) (v : Byte) :
    (r.writeOnes reg v).en0 = r.en0 ∧ (r.writeOnes reg v).en1 = r.en1 ∧ (r.writeOnes reg v).en2 = r.en2 := by
  cases reg <;> exact ⟨rfl, rfl, rfl⟩

/-- Settles O30: the flags that a write names, FLTLOST, the reset causes, and TSEL with TIDX. -/
theorem acknowledgeWritesClearWhatTheyName : Obligations.AcknowledgeWritesClearWhatTheyName := by
  intro s v hr
  refine ⟨fun reg => ⟨{ s with events := s.events.writeOnes reg v }, State.next_outOfReset hr rfl, rfl, ?_⟩,
    State.next_outOfReset hr rfl, State.next_outOfReset hr ?_, State.next_outOfReset hr rfl⟩
  · obtain ⟨en0, en1, en2⟩ := s.events.writeOnes_enables reg v
    exact ⟨en0, en1, en2, s.events.isSet_writeOnes reg v⟩
  · have cleared (flag one : Bool) : (flag && !one) = if one = true then false else flag := by cases one <;> simp
    rw [cleared, cleared]

/-! ### IRQ# (R163, R167, R192) -/

/-- The enables of the flags of one event register. -/
def EventRegs.enablesOf (r : EventRegs) : EventReg → Byte
  | .ev0 => r.en0
  | .ev1 => r.en1
  | .ev2 => r.en2

theorem EventRegs.isEnabled_eq (r : EventRegs) (e : Event) : r.isEnabled e = (r.enablesOf e.reg).getLsbD e.bit := by
  unfold EventRegs.isEnabled
  cases e.reg <;> rfl

/-- IRQ# follows the three registers alike. -/
theorem EventRegs.irqAsserted_iff_reg (r : EventRegs) :
    r.irqAsserted = true ↔ ∃ reg, r.flags reg &&& r.enablesOf reg ≠ 0 := by
  simp only [EventRegs.irqAsserted, Bool.or_eq_true, bne_iff_ne]
  constructor
  · rintro ((h | h) | h)
    exacts [⟨.ev0, h⟩, ⟨.ev1, h⟩, ⟨.ev2, h⟩]
  · rintro ⟨_ | _ | _, h⟩
    exacts [.inl (.inl h), .inl (.inr h), .inr h]

/-- Two bytes that share a bit. -/
theorem byte_and_ne_zero_iff (x y : Byte) : x &&& y ≠ 0 ↔ ∃ k < 8, x.getLsbD k = true ∧ y.getLsbD k = true := by
  rw [ne_eq, BitVec.eq_of_getLsbD_eq_iff]
  simp

/-- Every bit of an event register has its event. -/
theorem Event.exists_at (reg : EventReg) {k : Nat} (hk : k < 8) : ∃ e : Event, e.reg = reg ∧ e.bit = k := by
  refine ⟨Event.standingAt reg k, ?_⟩
  cases reg <;> interval_cases k <;> decide

/-- IRQ# is asserted for a flag set together with its enable (R167). -/
theorem EventRegs.irqAsserted_iff (r : EventRegs) :
    r.irqAsserted = true ↔ ∃ e : Event, r.isSet e = true ∧ r.isEnabled e = true := by
  simp only [EventRegs.irqAsserted_iff_reg, byte_and_ne_zero_iff, EventRegs.isEnabled_eq, EventRegs.isSet]
  constructor
  · rintro ⟨reg, k, hk, set, enabled⟩
    obtain ⟨e, rfl, rfl⟩ := Event.exists_at reg hk
    exact ⟨e, set, enabled⟩
  · rintro ⟨e, set, enabled⟩
    exact ⟨e.reg, e.bit, e.bit_lt, set, enabled⟩

/-- The address of an event register (R186). -/
def eventRegAddr : EventReg → BitVec 5
  | .ev0 => 0x0D
  | .ev1 => 0x0E
  | .ev2 => 0x0F

/-- The place of a flag in R192's table is the one that the model gives it. -/
theorem flagPlace_eq (e : Event) : flagPlace e = (eventRegAddr e.reg, e.bit) := by
  cases e with
  | late c | slip c => cases c <;> rfl
  | _ => rfl

/-- EV0 to EV2 show the flags, and EN0 to EN2 at the three addresses above show the enables. -/
theorem State.readRegister_eventRegAddr (s : State) (reg : EventReg) :
    s.readRegister (eventRegAddr reg) = s.events.flags reg ∧ s.readRegister (eventRegAddr reg + 3) = s.events.enablesOf reg := by
  cases reg <;> exact ⟨rfl, rfl⟩

/-- Settles O32: IRQ# by flags and enables, a flag raised, and the places of both. -/
theorem interruptFollowsFlagsAndEnables : Obligations.InterruptFollowsFlagsAndEnables := by
  intro s
  refine ⟨?_, s.events.isSet_raise, fun e => ?_⟩
  · rw [State.irqLow, Bool.and_eq_true, Bool.not_eq_true', EventRegs.irqAsserted_iff]
  · obtain ⟨flags, enables⟩ := s.readRegister_eventRegAddr e.reg
    rw [flagPlace_eq, flags, enables, EventRegs.isEnabled_eq]
    exact ⟨rfl, rfl⟩

end Sys2Proof.Machine
end

section
/-! The modes of the controller: BRINGUP, HOLD, WAKE, and resets (O11, O12, O5, O7 and O13). -/

namespace Sys2Proof.Machine

/-! ### BRINGUP (R170, R171) -/

/-- Checks that all answer the same result answer it unless each passes. -/
theorem firstFailure_of_same {r : Result} {checks : List (Bool × Result)} (same : ∀ c ∈ checks, c.2 = r)
    (fails : firstFailure checks ≠ none) : firstFailure checks = some r := by
  induction checks with
  | nil => exact absurd rfl fails
  | cons c rest ih =>
    obtain ⟨failed, answer⟩ := c
    obtain ⟨rfl, same⟩ := List.forall_mem_cons.mp same
    cases failed with
    | true => rfl
    | false => exact ih same fails

/-- The second check of R170 passes in its ranges; those that reach to the end of a byte need no test. -/
theorem State.timingRangeFails_eq_false_iff (s : State) : s.timingRangeFails = false ↔ s.TimingInRange := by
  have byte (i : Nat) : s.timingByte i ≤ 255 := Nat.le_of_lt_succ (s.timing[i]?.getD 0).isLt
  have openLim : s.openLim ≤ 255 := byte 5
  have settleLimit : s.settleLimit ≤ 255 := byte 9
  have ri : s.ri ≤ 65535 := Nat.add_le_add (byte 6) (Nat.mul_le_mul_left 256 (byte 7))
  simp [State.timingRangeFails, State.TimingInRange, openLim, settleLimit, ri, and_assoc]

/-- BRINGUP's checks of the timing table: the ranges and the two bounds (R170, checks 2 to 4). -/
def State.timingChecks (s : State) : List (Bool × Result) :=
  [(s.timingRangeFails, .timing),
    (decide (s.ri < 2 * (s.tWORD + s.tRMW + s.tPRE + 2 * s.tREF)), .timing),
    (decide (s.openLim * 16 < s.tACT + s.tWORD + s.tRMW), .timing)]

theorem State.timingChecks_pass_iff (s : State) : firstFailure s.timingChecks = none ↔
    s.TimingInRange ∧ 2 * (s.tWORD + s.tRMW + s.tPRE + 2 * s.tREF) ≤ s.ri ∧ s.tACT + s.tWORD + s.tRMW ≤ s.openLim * 16 := by
  simp only [State.timingChecks, firstFailure_cons_none, s.timingRangeFails_eq_false_iff, decide_eq_false_iff_not, Nat.not_lt]
  simp only [firstFailure, and_true]

/-- Where a check of the timing table fails, whichever it is, the answer is TIMING. -/
theorem State.timingChecks_fail {s : State} (fails : firstFailure s.timingChecks ≠ none) :
    firstFailure s.timingChecks = some .timing :=
  firstFailure_of_same (by simp [State.timingChecks]) fails

section
variable {s : State} (hr : s.inReset = false) (hm : s.mode = .setup)
include hr hm

theorem execBringup_nobank (absent : ∀ b, s.present b = false) : execBringup s = .next (s.refuse .nobank) := by
  have nobank : (Bank.all.all fun b => !s.present b) = true := Bank.all_iff.mpr fun b => by rw [absent b]; rfl
  exact congrArg Host.Outcome.next (State.command_check_fails hr (List.mem_singleton.mpr hm) _ (if_pos nobank))

/-- With a bank present BRINGUP answers by its checks of the timing table. -/
theorem execBringup_present (present : ∃ b, s.present b = true) :
    (firstFailure s.timingChecks ≠ none → execBringup s = .next (s.refuse .timing)) ∧
    (firstFailure s.timingChecks = none →
      execBringup s = .next { s.withResult .ok with mode := .warming, settle := 0, tickCount := 0 }) := by
  have banked : ¬(Bank.all.all fun b => !s.present b) = true := by
    obtain ⟨b, present⟩ := present
    intro absent
    simpa [present] using Bank.all_iff.mp absent b
  have taken : s.mode ∈ [Mode.setup] := List.mem_singleton.mpr hm
  exact ⟨fun fails => congrArg Host.Outcome.next
      (State.command_check_fails hr taken _ ((if_neg banked).trans (State.timingChecks_fail fails))),
    fun passes => congrArg Host.Outcome.next (State.command_checks_pass hr taken _ ((if_neg banked).trans passes))⟩

end

/-- Settles O11: the modes, then NOBANK, then TIMING by any of three checks, and the effect where they pass. -/
theorem bringupChecksTheTimingTable : Obligations.BringupChecksTheTimingTable := by
  intro s hr
  refine ⟨fun hm => congrArg Host.Outcome.next (State.command_of_not_taken hr (by simpa using hm) _ _), fun hm => ?_⟩
  intro bounds
  refine ⟨execBringup_nobank hr hm, fun present => ?_⟩
  obtain ⟨timing, taken⟩ := execBringup_present hr hm present
  have passes : firstFailure s.timingChecks = none ↔ s.TimingInRange ∧ bounds := s.timingChecks_pass_iff
  exact ⟨fun fails => timing (mt passes.mp (not_and_or.mpr fails)), fun range fits => taken (passes.mpr ⟨range, fits⟩)⟩

/-! ### The choices of the banks without the precharge-all action -/

section
variable {s : State}

/-- The choice of an OPEN bank leaves the mode and the precharge-all action. -/
theorem State.chooseOpen_action (s : State) (b : Bank) :
    (s.chooseOpen b).mode = s.mode ∧ (s.chooseOpen b).prechargeAll = s.prechargeAll := by
  unfold State.chooseOpen
  split
  · exact ⟨rfl, rfl⟩
  · split
    · split <;> exact ⟨rfl, rfl⟩
    · split <;> exact ⟨rfl, rfl⟩

/-- Without the precharge-all action a CLOSED bank does not enter HELD, and so makes no report that moves the mode (R84, R179). -/
theorem State.chooseClosed_withoutAction (b : Bank) (absent : s.prechargeAll = false) :
    (s.chooseClosed b).mode = s.mode ∧ (s.chooseClosed b).prechargeAll = false := by
  unfold State.chooseClosed
  rw [if_neg (by simp [absent])]
  split
  · exact ⟨rfl, absent⟩
  · split
    · exact ⟨rfl, absent⟩
    · split
      · exact ⟨rfl, absent⟩
      · split <;> exact ⟨rfl, absent⟩

theorem State.choose_withoutAction (b : Bank) (absent : s.prechargeAll = false) :
    (s.choose b).mode = s.mode ∧ (s.choose b).prechargeAll = false := by
  unfold State.choose
  split
  · split
    · exact absent ▸ s.chooseOpen_action b
    · exact State.chooseClosed_withoutAction b absent
  · exact ⟨rfl, absent⟩

theorem State.reconsider_withoutAction (b : Bank) (absent : s.prechargeAll = false) :
    (s.reconsider b).mode = s.mode ∧ (s.reconsider b).prechargeAll = false := by
  unfold State.reconsider
  split
  · exact State.choose_withoutAction (s := s.dropSelection b) b absent
  · exact State.choose_withoutAction b absent

/-- Where the precharge-all action is absent the choices of all banks leave the mode, and the action absent. -/
theorem State.reconsiderAll_withoutAction (absent : s.prechargeAll = false) :
    s.reconsiderAll.mode = s.mode ∧ s.reconsiderAll.prechargeAll = false := by
  obtain ⟨mode0, absent0⟩ := State.reconsider_withoutAction .b0 absent
  obtain ⟨mode1, absent1⟩ := State.reconsider_withoutAction .b1 absent0
  obtain ⟨mode2, absent2⟩ := State.reconsider_withoutAction .b2 absent1
  obtain ⟨mode3, absent3⟩ := State.reconsider_withoutAction .b3 absent2
  exact ⟨mode3.trans (mode2.trans (mode1.trans mode0)), absent3⟩

/-! ### HOLD (R177, R178) -/

/-- HOLD's first check: BUSY with a channel in use (R177). -/
theorem State.holdBusy_iff (s : State) :
    (Chan.all.any fun c => (s.chan c).busy || decide (0 < s.outstanding c)) = true ↔
      ∃ c, (s.chan c).state = .running ∨ (s.chan c).state = .draining ∨ 0 < s.outstanding c := by
  have all (c : Chan) : c ∈ Chan.all := by cases c <;> simp [Chan.all]
  simp only [List.any_eq_true, all, true_and, s.startBusy_iff]

/-- HOLD's second check: PAUSED with a bank paused (R177). -/
theorem State.holdPaused_iff (s : State) :
    (Bank.all.any fun b => (s.bank b).paused) = true ↔ ∃ b, (s.bank b).paused = true := by
  have all (b : Bank) : b ∈ Bank.all := by cases b <;> simp [Bank.all]
  simp only [List.any_eq_true, all, true_and]

/-- In HOLD_ENTRY an empty queue makes the precharge-all action present (R178). -/
theorem State.actionAfter_holdEntry (hm : s.mode = .holdEntry) (q : List Record) :
    s.actionAfter q = if q = [] then true else s.prechargeAll := by
  simp only [State.actionAfter, hm, true_and]

/-- HOLD taken: HOLD_ENTRY with the report of a queue that is empty already, then the choices of the banks (R178). -/
theorem execHold_taken (hr : s.inReset = false) (hm : s.mode = .run)
    (quiet : (Chan.all.any fun c => (s.chan c).busy || decide (0 < s.outstanding c)) = false)
    (active : (Bank.all.any fun b => (s.bank b).paused) = false) :
    execHold s = .next ({ s.withResult .ok with
      mode := .holdEntry, prechargeAll := if s.queue = [] then true else s.prechargeAll } : State).reconsiderAll := by
  refine congrArg Host.Outcome.next
    ((State.command_checks_pass hr (List.mem_singleton.mpr hm) _ (by rw [quiet, active]; rfl)).trans ?_)
  rw [State.afterRemoval_eq (show Mode.holdEntry ≠ .quiescing by decide), State.actionAfter_holdEntry rfl]
  rfl

end

/-- Settles O12: the modes, the two checks of R177, then HOLD_ENTRY with records waiting, where the choices of the banks find no action
and so leave the mode, and with none. -/
theorem holdEntersHoldEntry : Obligations.HoldEntersHoldEntry := by
  intro s hr
  refine ⟨fun hm => congrArg Host.Outcome.next (s.command_of_not_run hr hm _ _), fun hm => ?_⟩
  intro busy paused
  have taken : s.mode ∈ [Mode.run] := List.mem_singleton.mpr hm
  have quiet (h : ¬busy) := Bool.eq_false_iff.mpr (mt s.holdBusy_iff.mp h)
  have active (h : ¬paused) := Bool.eq_false_iff.mpr (mt s.holdPaused_iff.mp h)
  refine ⟨fun hb => congrArg Host.Outcome.next (State.command_check_fails hr taken _ (if_pos (s.holdBusy_iff.mpr hb))),
    fun hb hp => congrArg Host.Outcome.next (State.command_check_fails hr taken _ ?_),
    fun hb hp => ⟨fun waiting => ?_, fun empty => ?_⟩⟩
  · rw [quiet hb, s.holdPaused_iff.mpr hp]; rfl
  · intro u
    have enters := execHold_taken hr hm (quiet hb) (active hp)
    rw [if_neg waiting] at enters
    exact ⟨enters, State.reconsiderAll_withoutAction (s := u)⟩
  · have enters := execHold_taken hr hm (quiet hb) (active hp)
    rw [if_pos empty] at enters
    exact enters

/-! ### Reset (R183, R184) -/

/-- Settles O5: the state after reset is one closed state, so each law of Safety.lean is evaluated on it. -/
theorem resetStateIsSafe : Obligations.ResetStateIsSafe :=
  State.reset.safe_iff.mpr (by decide)

/-- Settles O7: either reset in force ends with the items reset and its own flags; one that is not in force has no end. -/
theorem resetEndSetsTheCauseFlags : Obligations.ResetEndSetsTheCauseFlags := by
  intro s r
  refine ⟨fun held => ?_, fun held => ?_, fun released => ?_, fun released => ?_⟩
  · exact congrArg Host.Outcome.next (if_pos held)
  · exact congrArg Host.Outcome.next (if_pos held)
  · exact congrArg Host.Outcome.next (if_neg (Bool.eq_false_iff.mp released))
  · exact congrArg Host.Outcome.next (if_neg (Bool.eq_false_iff.mp released))

/-! ### The start of a wake (R180, R182) -/

/-- The row of the edge is a falling edge whatever the last sample of HWAKE# was: the high sample that it stands for is overwritten. -/
theorem State.sampleHwake_edge (s : State) : (s.sampleHwake true).sampleHwake false = s.fallHwake := rfl

theorem execHwakeFallingEdge_eq {s : State} (hr : s.inReset = false) : execHwakeFallingEdge s = .next s.fallHwake :=
  State.next_outOfReset hr s.sampleHwake_edge

/-- Settles O13: WAKE has no check but the mode, and the edge starts the wake in HOLD alone. -/
theorem wakeStartsInHoldAlone : Obligations.WakeStartsInHoldAlone := by
  intro s hr
  refine ⟨fun hm => ⟨?_, ?_⟩, fun hm => ?_⟩
  · exact congrArg Host.Outcome.next (State.command_checks_pass hr (List.mem_singleton.mpr hm) _ rfl)
  · exact (execHwakeFallingEdge_eq hr).trans (congrArg Host.Outcome.next (if_pos hm))
  · exact (execHwakeFallingEdge_eq hr).trans (congrArg Host.Outcome.next (if_neg hm))

end Sys2Proof.Machine
end

section
/-! Every row has an answer, which leaves the waiting commands and the model's clock: O3. -/

namespace Sys2Proof.Machine

/-! ### What no row has a hand in -/

/-- The commands that wait, and the store clocks that have passed: the sender and the autonomous clock alone move them (entries 4 and 35). -/
def State.agenda (s : State) : List Instr × Nat := (s.pending, s.clocks)

theorem State.agenda_eq_iff {s t : State} : t.agenda = s.agenda ↔ t.pending = s.pending ∧ t.clocks = s.clocks := by
  rw [State.agenda, State.agenda, Prod.mk.injEq]

theorem State.ChoicesOf.agenda {s t : State} (h : s.ChoicesOf t) : t.agenda = s.agenda := by
  obtain ⟨frame, _⟩ := h
  rw [frame]
  rfl

section
variable (s : State)

/-! ### The choices of the banks, and reports -/

theorem State.reconsider_agenda (b : Bank) : (s.reconsider b).agenda = s.agenda := (s.reconsider_choiceOf b).1.agenda

theorem State.reconsiderAll_agenda : s.reconsiderAll.agenda = s.agenda := s.reconsiderAll_choicesOf.agenda

theorem State.quiesceTest_agenda : s.quiesceTest.agenda = s.agenda := s.quiesceTest_choicesOf.1.agenda

theorem State.removal_agenda : s.afterRemoval.reconsiderAll.agenda = s.agenda := s.removal_choicesOf.agenda

theorem State.afterOperation_agenda (b : Bank) : (s.afterOperation b).agenda = s.agenda := (s.afterOperation_choiceOf b).1.agenda

theorem State.raiseIf_agenda (cause : Bool) (e : Event) : (s.raiseIf cause e).agenda = s.agenda := by
  obtain ⟨_, frame⟩ := s.raiseIf_frame cause e
  rw [frame]
  rfl

theorem State.recordFault_agenda (f : FaultRecord) : (s.recordFault f).agenda = s.agenda := by
  rw [s.recordFault_frame f]
  rfl

theorem State.reportRegular_agenda (b : Bank) (row : Row) (paused : Bool) : (s.reportRegular b row paused).agenda = s.agenda := by
  rw [s.reportRegular_frame]
  rfl

/-! ### Rows, commands and read cycles -/

variable {s}

theorem State.outOfReset_agenda {effect : State → State} (h : (effect s).agenda = s.agenda) :
    (s.outOfReset effect).agenda = s.agenda := by
  unfold State.outOfReset
  split
  · rfl
  · exact h

theorem State.readCycle_agenda {addr : BitVec 5} {effect : State → State} (h : (effect s).agenda = s.agenda) :
    (s.readCycle addr effect).agenda = s.agenda := State.outOfReset_agenda h

theorem State.command_agenda {taken : List Mode} {quiescing : Result} {check : State → Option Result} {effect : State → State}
    (h : ∀ u, (effect u).agenda = u.agenda) : (s.command taken quiescing check effect).agenda = s.agenda := by
  obtain ⟨_, eq⟩ | ⟨_, _, _, eq⟩ | ⟨_, _, _, _, eq⟩ | ⟨_, _, _, eq⟩ := s.command_cases taken quiescing check effect
  · rw [eq]
  · rw [eq]; rfl
  · rw [eq]; rfl
  · rw [eq]; exact h _

theorem State.onBank_agenda {effect : Bank → State} (h : ∀ b, (effect b).agenda = s.agenda) : (s.onBank effect).agenda = s.agenda := by
  unfold State.onBank
  split
  · rfl
  · exact h _

theorem State.onChan_agenda {effect : Chan → State} (h : ∀ c, (effect c).agenda = s.agenda) : (s.onChan effect).agenda = s.agenda := by
  unfold State.onChan
  split
  · rfl
  · exact h _

variable (s)

/-! ### Channels -/

theorem State.stopChan_agenda (c : Chan) : (s.stopChan c).agenda = s.agenda := by
  unfold State.stopChan
  split <;> rfl

theorem State.drainTest_agenda (c : Chan) : (s.drainTest c).agenda = s.agenda := by
  unfold State.drainTest
  split <;> rfl

theorem State.ageRecords_agenda (c : Chan) : (s.ageRecords c).agenda = s.agenda := by
  unfold State.ageRecords
  simp only
  split <;> rfl

theorem State.faultChan_agenda (c : Chan) : (s.faultChan c).agenda = s.agenda := rfl

theorem State.tryPost_agenda (c : Chan) : (s.tryPost c).agenda = s.agenda := by
  unfold State.tryPost
  split <;> rfl

theorem State.periodSteps_agenda (c : Chan) : (s.periodSteps c).agenda = s.agenda := by
  have aged := s.ageRecords_agenda c
  unfold State.periodSteps
  simp only
  split
  · split
    · exact (State.faultChan_agenda _ c).trans aged
    · exact (State.tryPost_agenda _ c).trans aged
  · exact aged

theorem State.sourceEvent_agenda (c : Chan) : (s.sourceEvent c).agenda = s.agenda := by
  unfold State.sourceEvent
  simp only
  split
  · exact State.periodSteps_agenda _ c
  · rfl

theorem State.refreshEvents_agenda (cs : List Chan) : (cs.foldl State.refreshEvent s).agenda = s.agenda := by
  induction cs generalizing s with
  | nil => rfl
  | cons c rest ih =>
    refine (ih _).trans ?_
    unfold State.refreshEvent
    split
    · exact s.sourceEvent_agenda c
    · rfl

theorem State.sampleLsync_agenda (c : Chan) (high : Bool) : (s.sampleLsync c high).agenda = s.agenda := by
  unfold State.sampleLsync State.riseLsync
  simp only
  split
  · rfl
  · split
    · rfl
    · split
      · exact (State.reconsiderAll_agenda _).trans (State.sourceEvent_agenda _ c)
      · rfl

theorem State.laneServe_agenda (c : Chan) : (s.laneServe c).agenda = s.agenda := by
  unfold State.laneServe
  simp only
  split <;> rfl

/-! ### Ticks and modes -/

theorem State.raiseDebt_agenda (b : Bank) : (s.raiseDebt b).agenda = s.agenda := by
  unfold State.raiseDebt
  simp only
  split
  · rfl
  · split
    · exact State.raiseIf_agenda _ _ _
    · split
      · rfl
      · exact State.recordFault_agenda _ _

theorem State.raiseDebts_agenda : s.raiseDebts.agenda = s.agenda := by
  unfold State.raiseDebts
  split
  · simp only [State.raiseDebt_agenda]
  · rfl

theorem State.countSettle_agenda : s.countSettle.agenda = s.agenda := by
  unfold State.countSettle
  simp only
  split
  · split
    · split <;> rfl
    · split <;> rfl
    all_goals rfl
  · rfl

theorem State.fallHwake_agenda : s.fallHwake.agenda = s.agenda := by
  unfold State.fallHwake
  simp only
  split <;> rfl

theorem State.warmupTest_agenda : s.warmupTest.agenda = s.agenda := by
  unfold State.warmupTest
  split
  · exact State.reconsiderAll_agenda _
  · rfl

theorem State.clearTraffic_agenda : s.clearTraffic.agenda = s.agenda := by
  rw [s.clearTraffic_frame]
  rfl

/-! ### Tables and registers -/

theorem State.storeTable_agenda (v : Byte) : (s.storeTable v).agenda = s.agenda := by
  unfold State.storeTable
  split
  · rw [s.storeTiming_frame]
    rfl
  all_goals rfl

theorem State.storeRegister_agenda (addr : BitVec 5) (v : Byte) : (s.storeRegister addr v).agenda = s.agenda := by
  unfold State.storeRegister
  split <;> rfl

/-! ### The data path -/

theorem State.grant_agenda : s.grant.agenda = s.agenda := by
  unfold State.grant
  split
  · split
    · rfl
    · split <;> rfl
  · rfl

theorem State.endWord_agenda (i : Nat) (r : Record) : (s.endWord i r).agenda = s.agenda := by
  obtain ⟨_, _, _, moved⟩ := s.moveWord_frame r
  obtain ⟨_, _, _, reported⟩ := (s.moveWord r).recordFaultIf_frame (s.wordBad r) r.parityReport
  rw [State.endWord, reported, moved]
  rfl

theorem State.completionEffects_agenda (r : Record) : (s.completionEffects r).agenda = s.agenda := by
  unfold State.completionEffects
  split
  · exact State.raiseIf_agenda _ _ _
  · exact State.raiseIf_agenda _ _ _
  · exact s.drainTest_agenda _

theorem State.clearWaiting_agenda (r : Record) : (s.clearWaiting r).agenda = s.agenda := by
  rw [s.clearWaiting_frame r]
  rfl

theorem State.afterWord_agenda (i : Nat) (r : Record) : (s.afterWord i r).agenda = s.agenda := by
  have suspended : (s.suspend i r).agenda = s.agenda := State.reconsider_agenda _ _
  unfold State.afterWord
  split
  · exact (State.removal_agenda _).trans (State.clearWaiting_agenda _ r)
  · split
    · exact (State.removal_agenda _).trans (State.completionEffects_agenda _ r)
    · split
      · exact suspended
      · split
        · exact suspended
        · rfl

theorem State.wordEnd_agenda (isRmw : Bool) : (s.wordEnd isRmw).agenda = s.agenda := by
  unfold State.wordEnd
  split
  · rfl
  · split
    · exact (State.afterWord_agenda ..).trans (s.endWord_agenda ..)
    · rfl

end

/-! ### The answers of the rows -/

/-- An outcome is an answer to a row taken in `s`: a next state with the same agenda. -/
def State.Answered (s : State) (o : Host.Outcome State Fault Refusal) : Prop := ∃ t, o = .next t ∧ t.agenda = s.agenda

section
variable {s : State}

theorem State.Answered.of_next {t : State} (h : t.agenda = s.agenda) : s.Answered (.next t) := ⟨t, rfl, h⟩

theorem State.Answered.outOfReset {effect : State → State} (h : (effect s).agenda = s.agenda) :
    s.Answered (.next (s.outOfReset effect)) := .of_next (State.outOfReset_agenda h)

theorem State.Answered.command {taken : List Mode} {quiescing : Result} {check : State → Option Result} {effect : State → State}
    (h : ∀ u, (effect u).agenda = u.agenda) : s.Answered (.next (s.command taken quiescing check effect)) :=
  .of_next (State.command_agenda h)

theorem State.ite_agenda {p : Prop} [Decidable p] {t : State} (h : t.agenda = s.agenda) : (if p then t else s).agenda = s.agenda := by
  split
  · exact h
  · rfl

variable (s)

theorem execTrafficReset_answered : s.Answered (execTrafficReset s) :=
  .command fun u => (State.reconsiderAll_agenda _).trans ((State.quiesceTest_agenda _).trans u.clearTraffic_agenda)

theorem execChAbort_answered : s.Answered (execChAbort s) :=
  .command fun _ => State.onChan_agenda fun c => (State.reconsiderAll_agenda _).trans (State.stopChan_agenda _ c)

theorem execWeakAdd_answered : s.Answered (execWeakAdd s) := by
  refine .command fun _ => ?_
  split <;> rfl

theorem execUnknownCommand_answered {code : Byte} (unnamed : ¬namesCommand code = true) : s.Answered (execUnknownCommand code s) := by
  rw [execUnknownCommand, if_neg unnamed]
  exact .outOfReset rfl

theorem execDatalRead_answered : s.Answered (execDatalRead s) := by
  refine .of_next (State.readCycle_agenda ?_)
  dsimp only
  split <;> rfl

theorem execDatahRead_answered : s.Answered (execDatahRead s) := by
  refine .of_next (State.readCycle_agenda ?_)
  split <;> rfl

theorem execDatahWrite_answered (v : Byte) : s.Answered (execDatahWrite v s) := by
  refine .outOfReset ?_
  split
  · rfl
  · split
    · rfl
    · dsimp only
      split
      · exact State.reconsiderAll_agenda _
      · rfl

theorem execTdataWrite_answered (v : Byte) : s.Answered (execTdataWrite v s) := by
  refine .outOfReset (?_ : State.agenda (State.advanceIndex _) = _)
  split
  · exact s.storeTable_agenda v
  · rfl

theorem execRegisterWrite_answered {addr : BitVec 5} (v : Byte) (plain : ¬hasOwnWriteRow addr = true) :
    s.Answered (execRegisterWrite addr v s) := by
  rw [execRegisterWrite, if_neg plain]
  exact .outOfReset (s.storeRegister_agenda addr v)

theorem execResetEnd_answered (last : ResetKind) : s.Answered (execResetEnd last s) := by
  cases last with
  | pin | powerOn => exact .of_next (State.ite_agenda rfl)

theorem execLreqAsserted_answered (c : Chan) : s.Answered (execLreqAsserted c s) := by
  refine .of_next (State.outOfReset_agenda ?_ : _ = (s.withLreq c true).agenda)
  dsimp only
  split
  · exact (State.raiseIf_agenda ..).trans (State.raiseIf_agenda ..)
  · rfl

theorem execLreqWithdrawn_answered (c : Chan) : s.Answered (execLreqWithdrawn c s) := by
  refine .of_next (State.outOfReset_agenda ?_ : _ = (s.withLreq c false).agenda)
  dsimp only
  split <;> rfl

theorem execTick_answered (t : RefreshTick) : s.Answered (execTick t s) := by
  refine .outOfReset (State.ite_agenda ?_)
  refine (State.reconsiderAll_agenda _).trans ((State.refreshEvents_agenda _ _).trans ?_)
  split
  · exact State.countSettle_agenda _
  · exact State.raiseDebts_agenda _

theorem execActivationEnd_answered (b : Bank) : s.Answered (execActivationEnd b s) := by
  refine .outOfReset ?_
  dsimp only
  split
  · exact State.afterOperation_agenda _ b
  · rfl

theorem execRegularRefreshEnd_answered (b : Bank) : s.Answered (execRegularRefreshEnd b s) := by
  refine .outOfReset ?_
  dsimp only
  split
  · exact (State.afterOperation_agenda _ b).trans (State.reportRegular_agenda ..)
  · rfl

theorem execSpotRefreshEnd_answered (b : Bank) : s.Answered (execSpotRefreshEnd b s) := by
  refine .outOfReset ?_
  dsimp only
  split
  · exact State.afterOperation_agenda _ b
  · rfl

theorem execWarmupRefreshEnd_answered (b : Bank) : s.Answered (execWarmupRefreshEnd b s) := by
  refine .outOfReset (State.ite_agenda ?_)
  split
  · rfl
  · exact State.warmupTest_agenda _

theorem execLaneGrant_answered : s.Answered (execLaneGrant s) := by
  refine .outOfReset ?_
  split
  · exact s.laneServe_agenda _
  · rfl

theorem execFetchStrobeEnd_answered : s.Answered (execFetchStrobeEnd s) := by
  refine .outOfReset ?_
  split <;> rfl

theorem execDepositStrobeEnd_answered (ld : Data) : s.Answered (execDepositStrobeEnd ld s) := by
  refine .outOfReset ?_
  split
  · dsimp only
    split <;> rfl
  · rfl

/-- A well-formed row is answered in every state. -/
theorem exec_answered {i : Instr} (wf : i.wf = true) : s.Answered (exec i s) := by
  cases i with
  -- commands
  | bringup | wake | hostWrite | weakRemove | weakClear | faultPop => exact .command fun _ => rfl
  | hostRead | hostWriteByte => exact .command fun _ => State.reconsider_agenda _ _
  | hold | hostCancel => exact .command fun _ => State.removal_agenda _
  | trafficReset => exact execTrafficReset_answered s
  | chStart => exact .command fun _ => State.onChan_agenda fun _ => rfl
  | chStop => exact .command fun u => State.onChan_agenda u.stopChan_agenda
  | chAbort => exact execChAbort_answered s
  | bankPause | clearLost => exact .command fun _ => State.onBank_agenda fun _ => rfl
  | bankResume => exact .command fun _ => State.onBank_agenda fun _ => State.reconsider_agenda _ _
  | weakAdd => exact execWeakAdd_answered s
  | unknownCommand code => exact execUnknownCommand_answered s (by simpa [Instr.wf] using wf)
  -- the data port, the tables and the registers
  | datalRead => exact execDatalRead_answered s
  | datahRead => exact execDatahRead_answered s
  | tdataRead => exact .of_next (State.readCycle_agenda rfl)
  | datahWrite v => exact execDatahWrite_answered s v
  | tdataWrite v => exact execTdataWrite_answered s v
  | datalWrite | tselWrite | eventRegisterWrite | fltlostWrite | causeWrite => exact .outOfReset rfl
  | registerWrite addr v => exact execRegisterWrite_answered s v (by simpa [Instr.wf] using wf)
  -- resets and pins
  | pinReset | powerOnReset => exact .of_next rfl
  | resetEnd last => exact execResetEnd_answered s last
  | hwakeFallingEdge => exact .outOfReset s.fallHwake_agenda
  | lreqAsserted c => exact execLreqAsserted_answered s c
  | lreqWithdrawn c => exact execLreqWithdrawn_answered s c
  | lsyncRisingEdge c => exact .outOfReset ((State.sampleLsync_agenda _ c true).trans (s.sampleLsync_agenda c false))
  -- counters and operations
  | tick t => exact execTick_answered s t
  | warmupStart => exact .outOfReset (State.ite_agenda rfl)
  | wakeSettleEnd => exact .outOfReset (State.ite_agenda (State.reconsiderAll_agenda _))
  | periodTick t => exact .outOfReset (State.ite_agenda ((State.reconsiderAll_agenda _).trans (State.periodSteps_agenda _ t.chan)))
  | openLimitExpiry b => exact .outOfReset (State.ite_agenda (State.reconsider_agenda _ b))
  | activationEnd b => exact execActivationEnd_answered s b
  | prechargeEnd b => exact .outOfReset (State.ite_agenda (State.afterOperation_agenda _ b))
  | regularRefreshEnd b => exact execRegularRefreshEnd_answered s b
  | spotRefreshEnd b => exact execSpotRefreshEnd_answered s b
  | warmupRefreshEnd b => exact execWarmupRefreshEnd_answered s b
  | wordTransferEnd => exact .outOfReset (s.wordEnd_agenda false)
  | rmwWordEnd => exact .outOfReset (s.wordEnd_agenda true)
  -- arbiters and the lane
  | dataPathGrant => exact .outOfReset s.grant_agenda
  | laneGrant => exact execLaneGrant_answered s
  | fetchStrobeEnd => exact execFetchStrobeEnd_answered s
  | depositStrobeEnd ld => exact execDepositStrobeEnd_answered s ld

/-- A term that is not of the row it is written as is refused by name (entry 26). -/
theorem exec_refused {i : Instr} (wf : i.wf = false) : ∃ why, exec i s = .refused why := by
  cases i with
  | unknownCommand code => exact ⟨_, if_pos (by simpa [Instr.wf] using wf)⟩
  | registerWrite addr v => exact ⟨_, if_pos (by simpa [Instr.wf] using wf)⟩
  | _ => cases wf

end

/-- Settles O3: every row's answer keeps the agenda, and the two rows that can be written with another row's operand refuse it. -/
theorem everyWellFormedRowAnswersNext : Obligations.EveryWellFormedRowAnswersNext := by
  intro i s
  refine ⟨fun wf => ?_, exec_refused s⟩
  obtain ⟨t, answer, kept⟩ := exec_answered s wf
  exact ⟨t, answer, State.agenda_eq_iff.mp kept⟩

end Sys2Proof.Machine
end

section
/-! Host bus cycles and the rows that they carry out: O56. -/

namespace Sys2Proof.Machine

/-! ### Cycles and rows (R185 to R188) -/

/-- A row that a cycle carries out is read back from it. Where the match on the cycle turns on an operand, the row's lemma in
Laws/PerInstr says so. -/
theorem rowOfCycle_of_cycleOfRow {i : Instr} {x : BusCycle} (wf : i.wf = true) (carried : cycleOfRow i = some x) :
    rowOfCycle x = some i := by
  cases i with
  | unknownCommand code => exact Laws.CycleRoundTrip.unknownCommand code wf x carried
  | eventRegisterWrite reg v => exact Laws.CycleRoundTrip.eventRegisterWrite reg v wf x carried
  | registerWrite addr v => exact Laws.CycleRoundTrip.registerWrite addr v wf x carried
  | _ => cases carried <;> rfl

/-- A code written to CMD carries out the row that it spells (R187, R188). -/
theorem cycleOfRow_commandOfCode (v : Byte) :
    (commandOfCode v).wf = true ∧ cycleOfRow (commandOfCode v) = some (.write 0x01 v) := by
  revert v
  decide

/-- The registers whose writes are rows of their own (R186). -/
theorem eq_of_hasOwnWriteRow {addr : BitVec 5} (own : hasOwnWriteRow addr = true) :
    addr = 0x01 ∨ addr = 0x09 ∨ addr = 0x0A ∨ addr = 0x0D ∨ addr = 0x0E ∨ addr = 0x0F ∨ addr = 0x13 ∨ addr = 0x15 ∨ addr = 0x1C ∨
      addr = 0x1D := by
  revert own addr
  decide

/-- Every write cycle carries out a row (R185, R186). -/
theorem exists_row_of_write (addr : BitVec 5) (v : Byte) : ∃ i : Instr, i.wf = true ∧ cycleOfRow i = some (.write addr v) := by
  cases own : hasOwnWriteRow addr with
  | false => exact ⟨.registerWrite addr v, by simp [Instr.wf, own], rfl⟩
  | true =>
    obtain rfl | rfl | rfl | rfl | rfl | rfl | rfl | rfl | rfl | rfl := eq_of_hasOwnWriteRow own
    exacts [⟨_, cycleOfRow_commandOfCode v⟩, ⟨.datalWrite v, rfl, rfl⟩, ⟨.datahWrite v, rfl, rfl⟩,
      ⟨.eventRegisterWrite .ev0 v, rfl, rfl⟩, ⟨.eventRegisterWrite .ev1 v, rfl, rfl⟩, ⟨.eventRegisterWrite .ev2 v, rfl, rfl⟩,
      ⟨.tselWrite v, rfl, rfl⟩, ⟨.tdataWrite v, rfl, rfl⟩, ⟨.fltlostWrite v, rfl, rfl⟩, ⟨.causeWrite v, rfl, rfl⟩]

/-- A read cycle that is a row carries it out: those of DATAL, DATAH and TDATA alone are rows (R186). -/
theorem cycleOfRow_of_read (addr : BitVec 5) :
    ∀ i ∈ rowOfCycle (.read addr), i.wf = true ∧ cycleOfRow i = some (.read addr) := by
  revert addr
  decide

/-- A cycle spells the rows that it carries out, and no other. -/
theorem rowOfCycle_iff (x : BusCycle) (i : Instr) : rowOfCycle x = some i ↔ i.wf = true ∧ cycleOfRow i = some x := by
  refine ⟨fun spelled => ?_, fun ⟨wf, carried⟩ => rowOfCycle_of_cycleOfRow wf carried⟩
  cases x with
  | read addr => exact cycleOfRow_of_read addr i spelled
  | write addr v =>
    obtain ⟨j, wf, carried⟩ := exists_row_of_write addr v
    obtain rfl : j = i := Option.some.inj ((rowOfCycle_of_cycleOfRow wf carried).symm.trans spelled)
    exact ⟨wf, carried⟩

/-! ### What the bus pins make a cycle (R185) -/

/-- What the host bus carries is no cycle with CS# deasserted, with RD# and WR# together, or with neither. -/
theorem BusPins.cycle_eq_none {p : BusPins} (idle : p.cs = false ∨ p.rd = p.wr) : p.cycle = none := by
  obtain off | same := idle
  · rw [BusPins.cycle, off]
  · rw [BusPins.cycle, same]
    cases p.cs <;> cases p.wr <;> rfl

section
variable {s : State} {p : BusPins}

theorem State.presentBus_row {x : BusCycle} {i : Instr} (cycle : p.cycle = some x) (row : rowOfCycle x = some i) :
    s.presentBus p = { s with pending := s.pending ++ [i] } := by
  rw [State.presentBus, rowOfPins, cycle, Option.bind_some, row]

theorem State.presentBus_noRow {x : BusCycle} (cycle : p.cycle = some x) (noRow : rowOfCycle x = none) : s.presentBus p = s := by
  rw [State.presentBus, rowOfPins, cycle, Option.bind_some, noRow]

theorem State.presentBus_noCycle (cycle : p.cycle = none) : s.presentBus p = s := by
  rw [State.presentBus, rowOfPins, cycle, Option.bind_none]

theorem State.busDrives_read {addr : BitVec 5} (cycle : p.cycle = some (.read addr)) : s.busDrives p = s.busRead addr := by
  rw [State.busDrives, cycle]

theorem State.busDrives_write {addr : BitVec 5} {v : Byte} (cycle : p.cycle = some (.write addr v)) : s.busDrives p = none := by
  rw [State.busDrives, cycle]

theorem State.busDrives_noCycle (cycle : p.cycle = none) : s.busDrives p = none := by
  rw [State.busDrives, cycle]

end

/-- Settles O56: the rows of each cycle, then a read cycle, a write cycle and no cycle on the pins. -/
theorem busCyclesAndRowsAgree : Obligations.BusCyclesAndRowsAgree := by
  refine ⟨rowOfCycle_iff, fun s p => ⟨fun cs rd wr => ?_, fun cs rd wr => ?_, fun idle => ?_⟩⟩
  · have cycle : p.cycle = some (.read p.addr) := by rw [BusPins.cycle, cs, rd, wr]
    exact ⟨State.busDrives_read cycle, fun _ => State.presentBus_row cycle, State.presentBus_noRow cycle⟩
  · have cycle : p.cycle = some (.write p.addr p.data) := by rw [BusPins.cycle, cs, rd, wr]
    obtain ⟨i, wf, carried⟩ := exists_row_of_write p.addr p.data
    have row := rowOfCycle_of_cycleOfRow wf carried
    exact ⟨State.busDrives_write cycle, i, row, State.presentBus_row cycle row⟩
  · have cycle := BusPins.cycle_eq_none idle
    exact ⟨cycle, State.busDrives_noCycle cycle, State.presentBus_noCycle cycle⟩

end Sys2Proof.Machine
end

section
/-! Writes of the plain and of the read-only registers: O31. -/

namespace Sys2Proof.Machine

/-! ### The registers of REGISTER_WRITE (R185, R186) -/

/-- The plain registers, by address: ARG0 to ARG2, the host address registers, the enables and TIDX. -/
theorem eq_of_plain {a : BitVec 5} (plain : (0x02 ≤ a ∧ a ≤ 0x08) ∨ (0x10 ≤ a ∧ a ≤ 0x12) ∨ a = 0x14) :
    a = 0x02 ∨ a = 0x03 ∨ a = 0x04 ∨ a = 0x05 ∨ a = 0x06 ∨ a = 0x07 ∨ a = 0x08 ∨ a = 0x10 ∨ a = 0x11 ∨ a = 0x12 ∨ a = 0x14 := by
  revert plain a
  decide

section
variable (s : State) (v : Byte)

/-- A stored register changes the registers and the enables alone. -/
theorem State.storeRegister_frame (a : BitVec 5) :
    s.storeRegister a v = { s with
      regs := (s.storeRegister a v).regs
      events := { (s.storeRegister a v).events with ev0 := s.events.ev0, ev1 := s.events.ev1, ev2 := s.events.ev2 } } := by
  unfold State.storeRegister
  split <;> rfl

/-- A plain register reads back what was stored. -/
theorem State.readRegister_storeRegister_same {a : BitVec 5} (plain : (0x02 ≤ a ∧ a ≤ 0x08) ∨ (0x10 ≤ a ∧ a ≤ 0x12) ∨ a = 0x14) :
    (s.storeRegister a v).readRegister a = v := by
  obtain rfl | rfl | rfl | rfl | rfl | rfl | rfl | rfl | rfl | rfl | rfl := eq_of_plain plain
  all_goals rfl

/-- A stored register leaves what the others show, but for TDATA, which shows the byte at TIDX. -/
theorem State.readRegister_storeRegister_other {a a' : BitVec 5} (other : a' ≠ a) (index : ¬(a = 0x14 ∧ a' = 0x15)) :
    (s.storeRegister a v).readRegister a' = s.readRegister a' := by
  have otherNumber : a'.toNat ≠ a.toNat := fun same => other (BitVec.eq_of_toNat_eq same)
  have noIndex : ¬(a.toNat = 0x14 ∧ a'.toNat = 0x15) :=
    fun ⟨tidx, tdata⟩ => index ⟨BitVec.eq_of_toNat_eq tidx, BitVec.eq_of_toNat_eq tdata⟩
  unfold State.storeRegister
  split
  all_goals
    unfold State.readRegister
    split <;> try rfl
  -- the one place left of each register is its own, and of TIDX also TDATA's
  all_goals omega

/-- A read-only register ignores the write. -/
theorem State.storeRegister_readOnly {a : BitVec 5}
    (readOnly : a = 0x00 ∨ a = 0x0B ∨ a = 0x0C ∨ (0x16 ≤ a ∧ a ≤ 0x1B) ∨ a = 0x1E ∨ a = 0x1F) : s.storeRegister a v = s := by
  have numbers : a.toNat = 0x00 ∨ a.toNat = 0x0B ∨ a.toNat = 0x0C ∨ 0x16 ≤ a.toNat := by
    revert readOnly a
    decide
  unfold State.storeRegister
  split
  case h_12 => rfl
  all_goals omega

end

/-- A write of a register without a row of its own is stored. -/
theorem execRegisterWrite_stored {s : State} (hr : s.inReset = false) {a : BitVec 5} (v : Byte) (shared : hasOwnWriteRow a = false) :
    exec (.registerWrite a v) s = .next (s.storeRegister a v) :=
  (if_neg (Bool.eq_false_iff.mp shared)).trans (State.next_outOfReset hr rfl)

/-- Settles O31: a plain register, a read-only one, and one with a row of its own. -/
theorem plainRegistersReadBack : Obligations.PlainRegistersReadBack := by
  intro s a v hr isPlain
  refine ⟨fun plain => ?_, fun readOnly => ?_, fun ownRow => if_pos ownRow⟩
  · have shared : hasOwnWriteRow a = false := by
      revert plain a
      decide
    exact ⟨_, execRegisterWrite_stored hr v shared, s.storeRegister_frame v a, s.readRegister_storeRegister_same v plain,
      fun a' other index => s.readRegister_storeRegister_other v other index⟩
  · have shared : hasOwnWriteRow a = false := by
      revert readOnly a
      decide
    rw [execRegisterWrite_stored hr v shared, s.storeRegister_readOnly v readOnly]

end Sys2Proof.Machine
end

section
/-! Reads of TDATA and the layouts of the views: O28. -/

namespace Sys2Proof.Machine

/-! ### Bytes laid out as fields -/

/-- Fields side by side count as digits. -/
theorem append_toNat {m n : Nat} (x : BitVec m) (y : BitVec n) : (x ++ y).toNat = 2 ^ n * x.toNat + y.toNat := by
  rw [BitVec.toNat_append, ← Nat.shiftLeft_add_eq_or_of_lt y.isLt, Nat.shiftLeft_eq, Nat.mul_comm]

theorem flagBit_toNat (v : Prop) [Decidable v] : (flagBit v).toNat = (decide v).toNat := BitVec.toNat_ofBool _

/-- A field of a vector counts as the digits at its place. -/
theorem extractLsb'_toNat_eq_div {w : Nat} (x : BitVec w) (start len : Nat) :
    (x.extractLsb' start len).toNat = x.toNat / 2 ^ start % 2 ^ len := by
  rw [BitVec.extractLsb'_toNat, Nat.shiftRight_eq_div_pow]

/-- A layout is the byte of a number that it agrees with. -/
theorem eq_byte {x : Byte} {n : Nat} (h : x.toNat = n % 256) : x = byte n := by
  apply BitVec.eq_of_toNat_eq
  rw [h, byte, BitVec.toNat_ofNat]

/-- The low byte of a row. -/
theorem row_low_eq_byte (row : Row) : row.extractLsb' 0 8 = byte (row.toNat % 256) := by
  apply eq_byte
  rw [extractLsb'_toNat_eq_div]
  omega

/-- The upper bits of a row, alone in their byte. -/
theorem row_high_eq_byte (row : Row) : (0 : BitVec 6) ++ row.extractLsb' 8 2 = byte (row.toNat / 256) := by
  have bound := row.isLt
  apply eq_byte
  simp only [append_toNat, extractLsb'_toNat_eq_div, BitVec.ofNat_eq_ofNat, BitVec.toNat_ofNat]
  omega

/-! ### The codes of the layouts (R194, R195) -/

theorem Source.code_eq (x : Source) : x.code = sourceCode x := by
  cases x with
  | host => rfl
  | chan c => cases c <;> rfl

theorem sourceCode_lt (x : Source) : sourceCode x < 4 := by
  cases x with
  | host => decide
  | chan c => cases c <;> decide

/-! ### The places of the views -/

/-- The weak list view shows an entry as R195 lays it out. -/
theorem weakPlace_eq (e : WeakEntry) : weakPlace e = (List.range 3).map e.viewByte := by
  have bank := Bank.num_lt e.bank
  have row := e.row.isLt
  have rate := (decide (e.rate = .four)).toNat_le
  have pending := e.pending.toNat_le
  have flags : (0 : BitVec 2) ++ flagBit (e.pending = true) ++ flagBit (e.rate = .four) ++ BitVec.ofNat 2 e.bank.num ++
      e.row.extractLsb' 8 2 = e.viewByte 1 := by
    apply eq_byte
    simp only [append_toNat, flagBit_toNat, extractLsb'_toNat_eq_div, BitVec.ofNat_eq_ofNat, BitVec.toNat_ofNat, bitAt_eq,
      beq_eq_decide, Bool.decide_eq_true]
    omega
  have misses : (0 : BitVec 4) ++ BitVec.ofNat 4 e.misses = e.viewByte 2 := by
    apply eq_byte
    simp only [append_toNat, BitVec.ofNat_eq_ofNat, BitVec.toNat_ofNat]
    omega
  rw [weakPlace, row_low_eq_byte, flags, misses]
  rfl

/-- The second byte of the fault view: the absent place, the source's code and the bank. -/
theorem faultFlags_eq (b : Bank) {source : Nat} (hs : source < 8) (absent : Prop) [Decidable absent] :
    flagBit absent ++ (0 : BitVec 2) ++ BitVec.ofNat 3 source ++ BitVec.ofNat 2 b.num =
      byte (b.num + 4 * source + bitAt 7 (decide absent)) := by
  have bank := Bank.num_lt b
  have flag := (decide absent).toNat_le
  apply eq_byte
  simp only [append_toNat, flagBit_toNat, BitVec.ofNat_eq_ofNat, BitVec.toNat_ofNat, bitAt_eq]
  omega

/-- The fault view shows a record as R195 lays it out. -/
theorem faultPlace_eq {s : State} {f : FaultRecord} (record : s.faultView = some f) :
    faultPlace f = (List.range 6).map s.faultViewByte := by
  obtain ⟨kind, b, place, source, repeats⟩ := f
  have code (src : Source) : sourceCode src < 8 := (sourceCode_lt src).trans (by decide)
  show _ = [s.faultViewByte 0, s.faultViewByte 1, s.faultViewByte 2, s.faultViewByte 3, s.faultViewByte 4, s.faultViewByte 5]
  simp only [State.faultViewByte, record, faultPlace, List.cons_append, List.nil_append, List.cons.injEq]
  refine ⟨by cases kind <;> rfl, ?flags, ?place⟩
  case flags =>
    obtain _ | src := source
    · cases place <;> exact faultFlags_eq b (by decide) _
    · rw [Option.map_some, Option.getD_some, Source.code_eq]
      cases place <;> exact faultFlags_eq b (code src) _
  case place =>
    obtain _ | ⟨row, col⟩ := place
    · rfl
    · simp only [row_low_eq_byte, row_high_eq_byte]
      rfl

/-- The queue view shows a record as R195 lays it out. -/
theorem queuePlace_eq (r : Record) : queuePlace r = (List.range 8).map r.viewByte := by
  have bank := Bank.num_lt r.bank
  have row := r.row.isLt
  have source := sourceCode_lt r.source
  have error := (decide (r.status = .error)).toNat_le
  have urgent := r.urgent.toNat_le
  show _ = [r.viewByte 0, r.viewByte 1, r.viewByte 2, r.viewByte 3, r.viewByte 4, r.viewByte 5, r.viewByte 6, r.viewByte 7]
  simp only [queuePlace, Record.viewByte, List.cons.injEq, and_true]
  refine ⟨?kind, row_low_eq_byte _, ?address, trivial, rfl, ?progress, ?bypass, ?value⟩
  case kind =>
    apply eq_byte
    simp only [append_toNat, flagBit_toNat, BitVec.ofNat_eq_ofNat, BitVec.toNat_ofNat, bitAt_eq, beq_eq_decide,
      Bool.decide_eq_true, Source.code_eq]
    cases r.state
    all_goals
      cases r.kind
      all_goals
        simp only [RecState.code, Kind.code, BitVec.toNat_ofNat]
        omega
  case address =>
    apply eq_byte
    simp only [append_toNat, extractLsb'_toNat_eq_div, BitVec.ofNat_eq_ofNat, BitVec.toNat_ofNat, bitAt_eq]
    cases r.order
    all_goals
      obtain _ | ⟨_ | _, v⟩ := r.byteWrite
      all_goals
        simp only [Order.code, Option.map_none, Option.map_some, beq_eq_decide, Option.some.injEq, reduceCtorEq, decide_false,
          decide_true, Bool.toNat_false, Bool.toNat_true, BitVec.toNat_ofNat]
        omega
  case progress =>
    apply eq_byte
    simp only [append_toNat, BitVec.toNat_ofNat]
    omega
  case bypass =>
    apply eq_byte
    simp only [append_toNat, BitVec.ofNat_eq_ofNat, BitVec.toNat_ofNat]
    omega
  case value =>
    cases r.byteWrite <;> rfl

/-- The channel counters table shows a channel as R194 lays it out. -/
theorem countersPlace_eq (s : State) (c : Chan) :
    countersPlace s c = (List.range 9).map fun j => s.countersByte (9 * c.num + j) := by
  have state := (s.chan c).state.code_le
  have shown : (List.range 9).map (fun j => s.countersByte (9 * c.num + j)) =
      [byte ((s.chan c).state.code + 4 * (s.outstanding c % 4) + 16 * (s.chan c).lastSlip.code),
        byte ((s.chan c).cursor % 256), byte ((s.chan c).cursor / 256 % 256), byte ((s.chan c).cursor / 65536 % 4),
        byte (s.chan c).late, byte (s.chan c).slips, byte (s.chan c).fifo.length, byte (s.chan c).reserved,
        byte (s.chan c).claimed] := by
    cases c <;> rfl
  rw [shown]
  simp only [countersPlace, List.cons.injEq, and_true]
  refine ⟨?state, ?low, ?middle, ?high, rfl, rfl, rfl, rfl, rfl⟩
  case state =>
    apply eq_byte
    simp only [append_toNat, BitVec.ofNat_eq_ofNat, BitVec.toNat_ofNat]
    cases (s.chan c).lastSlip
    all_goals
      cases (s.chan c).state
      all_goals
        simp only [SlipReason.code, ChanState.code, BitVec.toNat_ofNat]
        omega
  all_goals
    apply eq_byte
    simp only [append_toNat, extractLsb'_toNat_eq_div, BitVec.ofNat_eq_ofNat, BitVec.toNat_ofNat]
    omega

/-! ### The byte at TIDX (R189) -/

theorem getElem?_map_range {α : Type} (f : Nat → α) {n j : Nat} (hj : j < n) : ((List.range n).map f)[j]? = some (f j) := by
  rw [List.getElem?_map, List.getElem?_range hj, Option.map_some]

/-- What a table holds, its size aside. -/
def State.tableContents (s : State) : Table → Nat → Byte
  | .timing, i => s.timing[i]?.getD 0
  | .descriptor c, i => (s.chan c).descByte i
  | .bankView, i => s.bankViewByte i
  | .weakView, i => s.weakViewByte i
  | .faultView, i => s.faultViewByte i
  | .queueView, i => s.queueViewByte i
  | .counters, i => s.countersByte i
  | .unnamed, _ => 0

section
variable {s : State}

/-- TDATA shows the byte at TIDX of the selected table. -/
theorem State.tdataByte_inside {t : Table} (selected : tableOf s.regs.tsel = t) (inside : s.regs.tidx.toNat < t.size) :
    s.tdataByte = s.tableContents t s.regs.tidx.toNat := by
  rw [State.tdataByte, selected]
  refine (if_neg (Nat.not_le.mpr inside)).trans ?_
  cases t <;> rfl

theorem State.tdataByte_first {t : Table} (selected : tableOf s.regs.tsel = t) (inside : 0 < t.size) (index : s.regs.tidx = 0) :
    s.tdataByte = s.tableContents t 0 := by
  have zero : s.regs.tidx.toNat = 0 := by rw [index]; rfl
  rw [State.tdataByte_inside selected (zero ▸ inside), zero]

/-- At or above the size of its table TDATA shows 00h. -/
theorem State.tdataByte_outside (outside : tableSizeOf s.regs.tsel ≤ s.regs.tidx.toNat) : s.tdataByte = 0 :=
  if_pos (by rwa [tableOf_size])

theorem tableOf_eq_unnamed {tsel : Byte} (h : 9 ≤ tsel.toNat) : tableOf tsel = .unnamed := by
  revert tsel
  decide

theorem State.tdataByte_unnamed (selected : 9 ≤ s.regs.tsel.toNat) : s.tdataByte = 0 :=
  State.tdataByte_inside (tableOf_eq_unnamed selected) s.regs.tidx.isLt

theorem State.tdataByte_timing (selected : s.regs.tsel = 0) {v : Byte} (stored : s.timing[s.regs.tidx.toNat]? = some v) :
    s.tdataByte = v := by
  obtain ⟨inside, _⟩ := Vector.getElem?_eq_some_iff.mp stored
  rw [State.tdataByte_inside (tableOf_eq_timing.mpr selected) inside, State.tableContents, stored, Option.getD_some]

theorem State.tdataByte_descriptor {c : Chan} (selected : s.regs.tsel.toNat = c.num + 1) {v : Byte}
    (stored : (s.chan c).desc[s.regs.tidx.toNat]? = some v) : s.tdataByte = v := by
  obtain ⟨inside, _⟩ := Vector.getElem?_eq_some_iff.mp stored
  rw [State.tdataByte_inside ((tableOf_eq_descriptor c).mpr selected) inside, State.tableContents, Channel.descByte, stored,
    Option.getD_some]

/-! ### The places of the views by their index -/

/-- The place and the field in it that an index names, in a view of places of `n` bytes behind its first byte. -/
theorem place_of_index {n j : Nat} (k : Nat) (hj : j < n) :
    1 + n * k + j ≠ 0 ∧ (1 + n * k + j - 1) / n = k ∧ (1 + n * k + j - 1) % n = j := by
  rw [Nat.add_assoc, Nat.add_sub_cancel_left, Nat.mul_add_div (Nat.zero_lt_of_lt hj), Nat.mul_add_mod, Nat.div_eq_of_lt hj,
    Nat.mod_eq_of_lt hj]
  exact ⟨by omega, rfl, rfl⟩

/-- A place of the bank view holds its bank's six bytes. -/
theorem State.bankViewByte_field (s : State) (b : Bank) {field : Nat} (hf : field < 6) :
    s.bankViewByte (1 + 6 * b.num + field) = (s.bank b).viewByte field := by
  obtain ⟨behindFirst, place, inPlace⟩ := place_of_index b.num hf
  have bank : Bank.ofNat? b.num = some b := by cases b <;> rfl
  rw [State.bankViewByte, if_neg behindFirst, place, inPlace, bank]

/-- TDATA at a place of the bank view. -/
theorem State.tdataByte_bank (selected : s.regs.tsel = 4) (b : Bank) {field : Nat} (hf : field < 6)
    (index : s.regs.tidx.toNat = 1 + 6 * b.num + field) : s.tdataByte = (s.bank b).viewByte field := by
  have number := Bank.num_lt b
  have inside : s.regs.tidx.toNat < Table.bankView.size := show _ < 25 by omega
  rw [State.tdataByte_inside (congrArg tableOf selected) inside]
  show s.bankViewByte _ = _
  rw [index, s.bankViewByte_field b hf]

theorem State.weakViewByte_entry {e : WeakEntry} {k j : Nat} (hj : j < 3) (entry : s.weak[k]? = some e) :
    s.weakViewByte (1 + 3 * k + j) = e.viewByte j := by
  obtain ⟨behindFirst, place, inPlace⟩ := place_of_index k hj
  rw [State.weakViewByte, if_neg behindFirst, place, inPlace, entry]

theorem State.weakViewByte_free {k j : Nat} (hj : j < 3) (free : s.weak.length ≤ k) : s.weakViewByte (1 + 3 * k + j) = 0 := by
  obtain ⟨behindFirst, place, _⟩ := place_of_index k hj
  rw [State.weakViewByte, if_neg behindFirst, place, List.getElem?_eq_none free]

theorem State.queueViewByte_record {r : Record} {k j : Nat} (hj : j < 8) (record : s.queue[k]? = some r) :
    s.queueViewByte (1 + 8 * k + j) = r.viewByte j := by
  obtain ⟨behindFirst, place, inPlace⟩ := place_of_index k hj
  rw [State.queueViewByte, if_neg behindFirst, place, inPlace, record]

theorem State.queueViewByte_free {k j : Nat} (hj : j < 8) (free : s.queue.length ≤ k) : s.queueViewByte (1 + 8 * k + j) = 0 := by
  obtain ⟨behindFirst, place, _⟩ := place_of_index k hj
  rw [State.queueViewByte, if_neg behindFirst, place, List.getElem?_eq_none free]

/-- With no record every byte of the fault view reads 00h. -/
theorem State.tdataByte_noFault (selected : s.regs.tsel = 6) (noRecord : s.faultView = none) : s.tdataByte = 0 := by
  by_cases inside : s.regs.tidx.toNat < 6
  · rw [State.tdataByte_inside (t := .faultView) (congrArg tableOf selected) inside, State.tableContents, State.faultViewByte,
      noRecord]
  · exact State.tdataByte_outside (by rw [selected]; exact Nat.not_lt.mp inside)

end

/-! ### A bank's bytes in the bank view (R194) -/

section
variable (l : BankLane)

/-- The third byte of a bank: the flags of its line above the upper bits of its open row. -/
theorem BankLane.viewByte_line :
    l.viewByte 2 = BitVec.ofBool l.line.openRow.isSome ++ BitVec.ofBool l.line.openPage ++ BitVec.ofBool l.line.expired ++
      (0 : BitVec 3) ++ (l.line.openRow.getD 0).extractLsb' 8 2 := by
  have row := (l.line.openRow.getD 0).isLt
  have isOpen := l.line.openRow.isSome.toNat_le
  have page := l.line.openPage.toNat_le
  have expired := l.line.expired.toNat_le
  refine (eq_byte ?_).symm
  simp only [append_toNat, extractLsb'_toNat_eq_div, BitVec.ofNat_eq_ofNat, BitVec.toNat_ofNat, BitVec.toNat_ofBool, bitAt_eq]
  omega

theorem BankLane.viewByte_pointerHigh : l.viewByte 4 = (l.pointer.extractLsb' 8 2).setWidth 8 := by
  have pointer := l.pointer.isLt
  refine (eq_byte ?_).symm
  rw [BitVec.toNat_setWidth, extractLsb'_toNat_eq_div]
  omega

theorem BankLane.viewByte_debt (bound : l.debt ≤ 15) : l.viewByte 5 = BitVec.ofNat 8 l.debt := by
  show byte (l.debt % 16) = byte l.debt
  rw [Nat.mod_eq_of_lt (by omega)]

end

/-- The three places of an entry in the weak list view, and of an absent one. -/
theorem State.tdataByte_weak {s : State} (selected : s.regs.tsel = 5) {k j : Nat} (hk : k < 16) (hj : j < 3)
    (index : s.regs.tidx.toNat = 1 + 3 * k + j) :
    (∀ e, s.weak[k]? = some e → (weakPlace e)[j]? = some s.tdataByte) ∧ (s.weak.length ≤ k → s.tdataByte = 0) := by
  have inside : s.regs.tidx.toNat < Table.weakView.size := show _ < 49 by omega
  have shown : s.tdataByte = s.weakViewByte (1 + 3 * k + j) := index ▸ State.tdataByte_inside (congrArg tableOf selected) inside
  rw [shown]
  refine ⟨fun e entry => ?_, State.weakViewByte_free hj⟩
  rw [State.weakViewByte_entry hj entry, weakPlace_eq, getElem?_map_range _ hj]

/-- The bytes of the fault view with a record. -/
theorem State.tdataByte_fault {s : State} (selected : s.regs.tsel = 6) {f : FaultRecord} (record : s.faultView = some f) {v : Byte}
    (place : (faultPlace f)[s.regs.tidx.toNat]? = some v) : s.tdataByte = v := by
  rw [faultPlace_eq record] at place
  have inside : s.regs.tidx.toNat < 6 := by
    obtain ⟨inside, _⟩ := List.getElem?_eq_some_iff.mp place
    simpa using inside
  rw [getElem?_map_range _ inside] at place
  exact (State.tdataByte_inside (congrArg tableOf selected) inside).trans (Option.some.inj place)

/-- The eight places of a record in the queue view, and of an absent one. -/
theorem State.tdataByte_queue {s : State} (selected : s.regs.tsel = 7) {k j : Nat} (hk : k < 8) (hj : j < 8)
    (index : s.regs.tidx.toNat = 1 + 8 * k + j) :
    (∀ r, s.queue[k]? = some r → (queuePlace r)[j]? = some s.tdataByte) ∧ (s.queue.length ≤ k → s.tdataByte = 0) := by
  have inside : s.regs.tidx.toNat < Table.queueView.size := show _ < 65 by omega
  have shown : s.tdataByte = s.queueViewByte (1 + 8 * k + j) := index ▸ State.tdataByte_inside (congrArg tableOf selected) inside
  rw [shown]
  refine ⟨fun r record => ?_, State.queueViewByte_free hj⟩
  rw [State.queueViewByte_record hj record, queuePlace_eq, getElem?_map_range _ hj]

/-- The nine places of a channel in the channel counters table. -/
theorem State.tdataByte_counters {s : State} (selected : s.regs.tsel = 8) (c : Chan) {j : Nat} (hj : j < 9)
    (index : s.regs.tidx.toNat = 9 * c.num + j) : (countersPlace s c)[j]? = some s.tdataByte := by
  have number := Chan.num_lt c
  have inside : s.regs.tidx.toNat < Table.counters.size := show _ < 27 by omega
  have shown : s.tdataByte = s.countersByte (9 * c.num + j) := index ▸ State.tdataByte_inside (congrArg tableOf selected) inside
  rw [shown, countersPlace_eq, getElem?_map_range _ hj]

/-- Settles O28: the read cycle, then TDATA table by table, and the bank view place by place. -/
theorem tableReadsReturnTheByteAtTheIndex : Obligations.TableReadsReturnTheByteAtTheIndex := by
  intro s hr
  refine ⟨?read, ?outside, fun selected v => State.tdataByte_timing selected, fun c selected v => State.tdataByte_descriptor selected,
    fun selected => State.tdataByte_first (congrArg tableOf selected) (by decide),
    fun selected => ⟨State.tdataByte_first (congrArg tableOf selected) (by decide), fun k j => State.tdataByte_weak selected⟩,
    fun selected => ⟨fun f record v => State.tdataByte_fault selected record, State.tdataByte_noFault selected⟩,
    fun selected => ⟨State.tdataByte_first (congrArg tableOf selected) (by decide), fun k j => State.tdataByte_queue selected⟩,
    fun selected c j => State.tdataByte_counters selected c, fun b selected => ?bank⟩
  case read =>
    refine congrArg Host.Outcome.next ((State.readCycle_of_not hr 0x15 _).trans ?_)
    rw [State.advanceIndex, HostRegs.advance_eq]
    rfl
  case outside =>
    rintro (outside | unnamed)
    · exact State.tdataByte_outside outside
    · exact State.tdataByte_unnamed unnamed
  case bank =>
    intro l
    have shown {field : Nat} (hf : field < 6) := State.tdataByte_bank selected b hf
    refine ⟨fun index => (shown (field := 0) (by decide) index).trans ?_, fun index => ?_, fun index => ?_, fun index => ?_,
      fun index => ?_, fun index bound => ?_⟩
    · show byte l.state.code = _
      cases l.state <;> rfl
    · exact (shown (field := 1) (by decide) (by omega)).trans (row_low_eq_byte _).symm
    · exact (shown (field := 2) (by decide) (by omega)).trans l.viewByte_line
    · exact (shown (field := 3) (by decide) (by omega)).trans (row_low_eq_byte _).symm
    · exact (shown (field := 4) (by decide) (by omega)).trans l.viewByte_pointerHigh
    · exact (shown (field := 5) (by decide) (by omega)).trans (l.viewByte_debt bound)

end Sys2Proof.Machine
end

section
/-! What a step does with a command waiting: O1. -/

namespace Sys2Proof.Machine

/-- Settles O1: the queue chooses the branch of `step`, and `takePending` changes the queue alone. -/
theorem stepRunsTheFrontCommand : Obligations.StepRunsTheFrontCommand := by
  intro s c rest front
  calc step s = exec c (s.takePending rest) := by rw [step, front]
    _ = exec c { s with pending := rest } := by rw [State.takePending]

end Sys2Proof.Machine
end
